-- ==== Sys2Proof/Word.lean ====
section
/-! DEFINITION. The word types of the unit and the two plainest helpers over them: a complex
integer (00_scope R13) and a list made from a function of the index. -/

namespace Sys2Proof

/-- The 40-bit command word `CW` (30_encoding R71). -/
abbrev CommandWord := BitVec 40

/-- The 64-bit payload beat `BT` (30_encoding R72). -/
abbrev Beat := BitVec 64

/-- One word of the real or the imaginary buffer, `BUF_W` = 64 bits, two's complement (00_scope R8). -/
abbrev BufWord := BitVec 64

/-- One word of the switching table, `TAB_W` = 16 bits, unsigned (00_scope R8). -/
abbrev TabWord := BitVec 16

/-- A complex integer: the pair of 00_scope R13, real part first. The datapath of
44_complex_arith computes on these, exactly (00_scope R10). -/
structure Cplx where
  re : Int
  im : Int
deriving DecidableEq, Repr

/-- `f i, f (i+1), …`, `n` words long: an array whose contents are given by index. -/
def tabulate {α : Type} (f : Nat → α) : Nat → Nat → List α
  | 0, _ => []
  | n + 1, i => f i :: tabulate f n (i + 1)

end Sys2Proof
end

