-- ==== Sys2Proof/Syntax.lean ====
section
/-! DEFINITION. What the host sends: the eight commands of the opcode table as one inductive, and
the words they travel as on the command and payload channels (30_encoding R70 to R73). -/

namespace Sys2Proof

/-- One input sample: `real_in[i]` and `imag_in[i]`, both `s32` (30_encoding R72). -/
structure Sample where
  re : BitVec 32
  im : BitVec 32
deriving DecidableEq, Repr

/-- The eight commands, one constructor per row of spec/opcode_table.json, with the operands of
30_encoding R76; FORWARD and INVERSE carry their payload (30_encoding R70). -/
inductive Instr where
  /-- CONSTRUCT, `op = 0x01`: the requested length is all of `arg` (45_transform_engine R171). -/
  | construct (length : BitVec 32)
  /-- DESTROY, `op = 0x02`: no operand (45_transform_engine R174). -/
  | destroy
  /-- FORWARD, `op = 0x03`: the announced count and the payload (45_transform_engine R176). -/
  | forward (cnt : BitVec 32) (payload : List Sample)
  /-- INVERSE, `op = 0x04`: the announced count and the payload (45_transform_engine R177). -/
  | inverse (cnt : BitVec 32) (payload : List Sample)
  /-- RESULT_RE, `op = 0x05` (46_result_accessor R201). -/
  | resultRe (index : BitVec 32)
  /-- RESULT_IM, `op = 0x06` (46_result_accessor R202). -/
  | resultIm (index : BitVec 32)
  /-- ISPOW2, `op = 0x07`: the operand is `arg[15:0]` (40_size_validator R101). -/
  | ispow2 (x : BitVec 16)
  /-- ISQRT, `op = 0x08` (41_isqrt R112). -/
  | isqrt (x : BitVec 32)
deriving DecidableEq, Repr

/-- One whole command as the host presents it: the command word and the payload beats that follow
it, in arrival order (30_encoding R70, R73). -/
structure Request where
  cw : CommandWord
  beats : List Beat
deriving DecidableEq, Repr

/-- What the outside world can do to the unit between two commands: present a whole command
(20_memory R59), or reset it (70_reset_and_hazards R251, R252). -/
inductive HostInput where
  | command (r : Request)
  | reset
deriving DecidableEq, Repr

end Sys2Proof
end

