-- ==== Sys2Proof/WellFormed.lean ====
section
/-! DEFINITION. Which commands can be put on the wire: a payload has exactly the announced number
of beats (30_encoding R73). Operands that the unit itself judges (a length, an index, a count that
differs from `length`) are well formed whatever their value: the unit rejects them at run time. -/

namespace Sys2Proof

/-- The command can be encoded: FORWARD and INVERSE carry exactly `cnt` samples (30_encoding R73). -/
def Instr.wellFormed : Instr → Bool
  | .construct _ => true
  | .destroy => true
  | .forward cnt payload => payload.length == cnt.toNat
  | .inverse cnt payload => payload.length == cnt.toNat
  | .resultRe _ => true
  | .resultIm _ => true
  | .ispow2 _ => true
  | .isqrt _ => true

end Sys2Proof
end

