-- ==== Sys2Proof/Decode.lean ====
section
/-! DEFINITION. The decoder of 30_encoding R81, total on every command word with every payload and
rejecting by name, and the encoder, both from the formats of R71 to R76. -/

namespace Sys2Proof

/-! ## Fields -/

/-- `op = CW[39:32]` (30_encoding R71). -/
def CommandWord.op (cw : CommandWord) : BitVec 8 := cw.extractLsb' 32 8

/-- `arg = CW[31:0]` (30_encoding R71). -/
def CommandWord.arg (cw : CommandWord) : BitVec 32 := cw.extractLsb' 0 32

/-- The command word `{op, arg}` (30_encoding R71). -/
def CommandWord.make (op : BitVec 8) (arg : BitVec 32) : CommandWord := op ++ arg

/-- The sample a beat carries: `bim` in bits 63:32, `bre` in bits 31:0 (30_encoding R72). -/
def Sample.ofBeat (b : Beat) : Sample := ⟨b.extractLsb' 0 32, b.extractLsb' 32 32⟩

/-- The beat `{bim, bre}` that carries a sample (30_encoding R72). -/
def Sample.toBeat (x : Sample) : Beat := x.im ++ x.re

/-- How many payload beats follow a command word: `cnt` for the opcodes `0x03` and `0x04`, whatever
its value and whether or not the command will be rejected, and none for any other opcode
(30_encoding R73, R81). -/
def payloadBeats (cw : CommandWord) : Nat :=
  if cw.op = 0x03#8 ∨ cw.op = 0x04#8 then cw.arg.toNat else 0

/-- The request is framed as 30_encoding R73 says: exactly the beats its command word announces.
Only such a request can travel on the channels (log 2). -/
def Request.framed (r : Request) : Bool := r.beats.length == payloadBeats r.cw

/-! ## Decoding -/

/-- Why a command word is reserved. -/
inductive ReservedKind where
  /-- `op = 0x00` or `op` in `[0x09, 0xFF]` (30_encoding R78). -/
  | opcode
  /-- A reserved `arg` bit is set: DESTROY's `arg[31:0]`, ISPOW2's `arg[31:16]` (30_encoding R79). -/
  | argBits
deriving DecidableEq, Repr

/-- The decoder's answer: a command, or `Reserved` with the reason (30_encoding R81). -/
inductive Decoded where
  | command (i : Instr)
  | reserved (why : ReservedKind)
deriving DecidableEq, Repr

/-- `decode(CW)` of 30_encoding R81, on a command word and the payload beats that came with it. -/
def decode (r : Request) : Decoded :=
  let arg := r.cw.arg
  let payload := r.beats.map Sample.ofBeat
  match r.cw.op.toNat with
  | 0x01 => .command (.construct arg)
  | 0x02 => if arg = 0#32 then .command .destroy else .reserved .argBits
  | 0x03 => .command (.forward arg payload)
  | 0x04 => .command (.inverse arg payload)
  | 0x05 => .command (.resultRe arg)
  | 0x06 => .command (.resultIm arg)
  | 0x07 =>
    if arg.extractLsb' 16 16 = 0#16 then .command (.ispow2 (arg.extractLsb' 0 16))
    else .reserved .argBits
  | 0x08 => .command (.isqrt arg)
  | _ => .reserved .opcode

/-! ## Encoding -/

/-- The command word and payload of a command (30_encoding R71, R72, R75, R76). -/
def encode : Instr → Request
  | .construct length => ⟨CommandWord.make 0x01#8 length, []⟩
  | .destroy => ⟨CommandWord.make 0x02#8 0#32, []⟩
  | .forward cnt payload => ⟨CommandWord.make 0x03#8 cnt, payload.map Sample.toBeat⟩
  | .inverse cnt payload => ⟨CommandWord.make 0x04#8 cnt, payload.map Sample.toBeat⟩
  | .resultRe index => ⟨CommandWord.make 0x05#8 index, []⟩
  | .resultIm index => ⟨CommandWord.make 0x06#8 index, []⟩
  | .ispow2 x => ⟨CommandWord.make 0x07#8 (0#16 ++ x), []⟩
  | .isqrt x => ⟨CommandWord.make 0x08#8 x, []⟩

/-! ## The opcode table as data -/

/-- One row of spec/opcode_table.json: a word belongs to the row when its masked bits are `pattern`. -/
structure OpcodeRow where
  mnemonic : String
  pattern : CommandWord
  mask : CommandWord
deriving DecidableEq, Repr

/-- The word belongs to the row; reserved bits are part of the mask (30_encoding R79). -/
def OpcodeRow.covers (row : OpcodeRow) (cw : CommandWord) : Bool := cw &&& row.mask == row.pattern

/-- The eight rows of spec/opcode_table.json (the machine-readable copy of 30_encoding R75, R76). -/
def opcodeTable : List OpcodeRow :=
  [ ⟨"CONSTRUCT", 0x0100000000#40, 0xFF00000000#40⟩,
    ⟨"DESTROY", 0x0200000000#40, 0xFFFFFFFFFF#40⟩,
    ⟨"FORWARD", 0x0300000000#40, 0xFF00000000#40⟩,
    ⟨"INVERSE", 0x0400000000#40, 0xFF00000000#40⟩,
    ⟨"RESULT_RE", 0x0500000000#40, 0xFF00000000#40⟩,
    ⟨"RESULT_IM", 0x0600000000#40, 0xFF00000000#40⟩,
    ⟨"ISPOW2", 0x0700000000#40, 0xFFFFFF0000#40⟩,
    ⟨"ISQRT", 0x0800000000#40, 0xFF00000000#40⟩ ]

/-- The mnemonic of a command, as spec/opcode_table.json spells it. -/
def Instr.mnemonic : Instr → String
  | .construct _ => "CONSTRUCT"
  | .destroy => "DESTROY"
  | .forward _ _ => "FORWARD"
  | .inverse _ _ => "INVERSE"
  | .resultRe _ => "RESULT_RE"
  | .resultIm _ => "RESULT_IM"
  | .ispow2 _ => "ISPOW2"
  | .isqrt _ => "ISQRT"

/-! ## A request from the bits of a number -/

/-- `n` beats from the bits of `v`, the least significant 64 bits first. -/
def beatsOfBits : Nat → Nat → List Beat
  | 0, _ => []
  | n + 1, v => BitVec.ofNat 64 v :: beatsOfBits n (v >>> 64)

/-- The request whose bits are the low `nbits` bits of `w` and zero above: bits 39:0 are the command
word, and each announced beat takes the next 64 bits (log 14). -/
def requestOfBits (nbits w : Nat) : Request :=
  let v := w % 2 ^ nbits
  let cw : CommandWord := BitVec.ofNat 40 v
  ⟨cw, beatsOfBits (payloadBeats cw) (v >>> 40)⟩

/-- The command the decoder reads from an instruction whose bits are `w`, or none where the word is
reserved. -/
def decodeTableWord (nbits w : Nat) : Option Instr :=
  match decode (requestOfBits nbits w) with
  | .command i => some i
  | .reserved _ => none

end Sys2Proof
end

