-- ==== Sys2Proof/Config.lean ====
section
/-! DEFINITION. The implementation parameters of 00_scope R8 that a definition uses by name, and
the free values: array contents the spec leaves unspecified. A free value has no body, so no proof
can learn it, and a claim about it holds whatever it is. -/

namespace Sys2Proof.Config

/-- `N_MAX` = `2^LOG2N_MAX` = 32768: the depth of each buffer RAM and of the table RAM (00_scope R8). -/
def nMax : Nat := 32768

/-- `TW_FRAC` = 30: fraction bits of a twiddle word (00_scope R8). -/
def twFrac : Nat := 30

/-- The last index of `QROM`, `N_MAX / 4` = 8192; `QROM_DEPTH` is one more (00_scope R8). -/
def qromLast : Nat := 8192

/-- Word `i` of the switching table where its content is unspecified: after power-up or reset, and
after a DESTROY (10_state R37, 45_transform_engine R174). The first argument numbers the draw.
Free value, log 7 and log 8. -/
opaque freeTab : Nat → Nat → TabWord

/-- Word `i` of the real buffer where its content is unspecified: `BUF_INIT_re(i)` of the draw a
CONSTRUCT makes (10_state R25), and the contents after power-up, reset and DESTROY (10_state R37).
The first argument numbers the draw. Free value, log 6 to log 8. -/
opaque freeRe : Nat → Nat → BufWord

/-- Word `i` of the imaginary buffer where its content is unspecified, as `freeRe`. -/
opaque freeIm : Nat → Nat → BufWord

end Sys2Proof.Config
end

