-- ==== Sys2Proof/Machine/State.lean ====
section
/-! DEFINITION. The state of one LFC unit as plain data (10_state R20 to R37): the lifecycle and
control bits, the three arrays, the response port, the commands the host has presented, and the
model's own counter of draws. -/

namespace Sys2Proof.Machine

/-- The domain label of 10_state R29 (TIME = 0, FREQ = 1). Nothing reads it. -/
inductive Domain where
  | time
  | freq
deriving DecidableEq, Repr

/-- The six outcome codes of 30_encoding R74; codes 6 to 15 are never produced. -/
inductive Status where
  /-- 0: the command completed fully. -/
  | ok
  /-- 1: CONSTRUCT with an invalid length (60_exceptions R222). -/
  | errSize
  /-- 2: RESULT_RE or RESULT_IM with `index ≥ length` (60_exceptions R223). -/
  | errIndex
  /-- 3: FORWARD or INVERSE with `cnt ≠ length` (60_exceptions R225). -/
  | errLen
  /-- 4: a command that needs an instance when there is none, or CONSTRUCT when there is one
  (60_exceptions R224). -/
  | errState
  /-- 5: a reserved opcode or a reserved `arg` bit (60_exceptions R227). -/
  | errOp
deriving DecidableEq, Repr

/-- A response `{status, data}` (30_encoding R70, R74); its 68-bit word is `Response.word`. -/
structure Response where
  status : Status
  data : BitVec 64
deriving DecidableEq, Repr

/-- The three writable arrays of the unit (10_state R24, R26; 20_memory R50). Each is the list of
its `N_MAX` words in index order, so equal memories are equal lists; the fourth space, `QROM`, is a
constant. -/
structure Memory where
  /-- `tab[ ]`, the switching table. -/
  tab : List TabWord
  /-- `re[ ]`, the real parts of the samples. -/
  re : List BufWord
  /-- `im[ ]`, the imaginary parts of the samples. -/
  im : List BufWord
deriving DecidableEq, Repr

/-- Every array has exactly its `N_MAX` words (10_state R20): the one form a memory has. -/
abbrev Memory.wf (m : Memory) : Prop :=
  m.tab.length = Config.nMax ∧ m.re.length = Config.nMax ∧ m.im.length = Config.nMax

/-- The state of the unit (10_state R20) with its channels (30_encoding R70). -/
structure State where
  /-- 1 while the unit holds a transform instance (10_state R21). -/
  constructed : Bool
  /-- The transform length of the current instance, 0 when there is none (10_state R22). -/
  length : BitVec 16
  /-- `log2(length)`, 0 when there is no instance (10_state R23). -/
  log2n : BitVec 4
  /-- The domain label (10_state R29). -/
  domain : Domain
  /-- The switching table and the two sample buffers (10_state R24, R26). -/
  mem : Memory
  /-- The response port: the response of the last command, none after a reset (30_encoding R74,
  10_state R37; log 4). -/
  response : Option Response
  /-- What the host has presented and the unit has not yet taken, oldest first: the single sequence
  of whole commands of 20_memory R59, with reset requests between them (log 1, log 5). -/
  inputs : List HostInput
  /-- The model's own: how many draws of unspecified array contents there have been; it numbers the
  free values of Config (log 9). -/
  draws : Nat
deriving DecidableEq, Repr

/-- The unit right after power-up, which is reset (10_state R37, 70_reset_and_hazards R250): no
instance, no response pending, nothing presented. The arrays' contents are unspecified, so they are
the free values of draw 0 (log 8). -/
def State.reset : State where
  constructed := false
  length := 0#16
  log2n := 0#4
  domain := .time
  mem :=
    { tab := tabulate (Config.freeTab 0) Config.nMax 0
      re := tabulate (Config.freeRe 0) Config.nMax 0
      im := tabulate (Config.freeIm 0) Config.nMax 0 }
  response := none
  inputs := []
  draws := 1

/-- Why the machine stops with a fault. -/
inductive Fault where
  /-- An access to word 32768 or above of an array, which the unit does not have (20_memory R50,
  R53). Raised by RESULT_RE and RESULT_IM when `length` admits such an index and by FORWARD and
  INVERSE when `length` or a table entry does. Safe: the spec's invariants (10_state R34) rule such
  states out, so no run of the hardware is cut short (log 11). -/
  | noSuchWord
deriving DecidableEq, Repr

/-- Why the model has no meaning for an instruction. -/
inductive Refusal where
  /-- The instruction has no meaning yet; raised by `exec`'s arms only. Safe: the model stops. No arm
  of this model answers it. -/
  | notModelled (mnemonic : String)
deriving DecidableEq, Repr

end Sys2Proof.Machine
end

