-- ==== Sys2Proof/Machine/Ops.lean ====
section
/-! DEFINITION. The named operations over the arrays and the ends of a command: reading and writing
one word or one sample, drawing unspecified contents, responding, rejecting (the spec's exception),
and reset. -/

namespace Sys2Proof.Machine

/-! ## One word of an array (20_memory R53, R54) -/

/-- The unit has word `i` of an array: the arrays have `N_MAX` words (20_memory R50). -/
def hasWord (i : Nat) : Bool := i < Config.nMax

/-- `MemRead(TAB, i)` (00_scope R12). -/
def Memory.readTab (m : Memory) (i : Nat) : TabWord := m.tab.getD i 0#16

/-- `MemRead(RE, i)`. -/
def Memory.readRe (m : Memory) (i : Nat) : BufWord := m.re.getD i 0#64

/-- `MemRead(IM, i)`. -/
def Memory.readIm (m : Memory) (i : Nat) : BufWord := m.im.getD i 0#64

/-- `MemWrite(TAB, i, v)`. -/
def Memory.writeTab (m : Memory) (i : Nat) (v : TabWord) : Memory := { m with tab := m.tab.set i v }

/-- `MemWrite(RE, i, v)`. -/
def Memory.writeRe (m : Memory) (i : Nat) (v : BufWord) : Memory := { m with re := m.re.set i v }

/-- `MemWrite(IM, i, v)`. -/
def Memory.writeIm (m : Memory) (i : Nat) (v : BufWord) : Memory := { m with im := m.im.set i v }

/-! ## One sample: the same index in both buffers (00_scope R13, 20_memory R54) -/

/-- Sample `i` as exact integers: `(int(re[i]), int(im[i]))` (00_scope R10). -/
def Memory.readSample (m : Memory) (i : Nat) : Cplx := ⟨(m.readRe i).toInt, (m.readIm i).toInt⟩

/-- Store the two parts of a sample as `s64` words. By 44_complex_arith R160 the exact value of every
stored part fits its word, so nothing is cut (log 10). -/
def Memory.writeSample (m : Memory) (i : Nat) (c : Cplx) : Memory :=
  (m.writeRe i (BitVec.ofInt 64 c.re)).writeIm i (BitVec.ofInt 64 c.im)

/-! ## Unspecified contents -/

/-- Replace the first `n` words of an array, from index `i` on, by the values `f` gives. -/
def fill {α : Type} (f : Nat → α) : Nat → Nat → List α → List α
  | 0, _, l => l
  | _ + 1, _, [] => []
  | n + 1, i, _ :: l => f i :: fill f n (i + 1) l

/-- `re[i] <- BUF_INIT_re(i); im[i] <- BUF_INIT_im(i)` for `i` in `[0, n)`, with the free values of
draw `d` (10_state R25). -/
def Memory.drawBuffers (m : Memory) (d n : Nat) : Memory :=
  { m with re := fill (Config.freeRe d) n 0 m.re, im := fill (Config.freeIm d) n 0 m.im }

/-- Words `[0, n)` of all three arrays become unspecified: the free values of draw `d`
(45_transform_engine R174, 70_reset_and_hazards R250). -/
def Memory.forget (m : Memory) (d n : Nat) : Memory :=
  { m.drawBuffers d n with tab := fill (Config.freeTab d) n 0 m.tab }

/-! ## How a command ends -/

/-- `respond(data)`: the command ends with `{OK, data}` (00_scope R12, 30_encoding R74). -/
def respond (data : BitVec 64) (s : State) : Host.Outcome State Fault Refusal :=
  .next { s with response := some ⟨.ok, data⟩ }

/-- `raise Reject(code)`, the one exception the unit takes (60_exceptions R221): every element of the
state stays as it was, nothing is saved, control goes nowhere, and the response is `{code, 0}`.
There is no return from it (60_exceptions R228): the next command is simply the next. -/
def reject (code : Status) (s : State) : Host.Outcome State Fault Refusal :=
  .next { s with response := some ⟨code, 0#64⟩ }

/-- The UNCONSTRUCTED control values: `constructed`, `length`, `log2n` 0 and `domain` TIME
(10_state R34 item 4, 45_transform_engine R170). -/
def clearControl (s : State) : State :=
  { s with constructed := false, length := 0#16, log2n := 0#4, domain := .time }

/-- A reset request between two commands (70_reset_and_hazards R250 to R252): the UNCONSTRUCTED state,
array contents unspecified, no response pending. What the host presents later is the host's own and
stays (log 5). -/
def resetUnit (s : State) : State :=
  { clearControl s with
    mem := s.mem.forget s.draws Config.nMax, response := none, draws := s.draws + 1 }

end Sys2Proof.Machine
end

