-- ==== Sys2Proof/Machine/Operands.lean ====
section
/-! DEFINITION. The operand forms of the unit: sign extension of a payload component, the zero
extensions of a response, and the check that gates a length. The decoder has already cut the
operands out of `arg`; no operand is scaled or assembled (30_encoding R77). -/

namespace Sys2Proof.Machine

/-- `sext_64(bre)`, `sext_64(bim)`: the only sign extension in the unit (30_encoding R72, R77). -/
def sext64 (v : BitVec 32) : BufWord := v.signExtend 64

/-- `zext_64` of a Boolean result: 1 if true, 0 if false, in `data[0]` (30_encoding R74). -/
def zext64Bool (b : Bool) : BitVec 64 := if b then 1#64 else 0#64

/-- `zext_64` of the 16-bit root: `data[15:0] = root`, `data[63:16] = 0` (30_encoding R74). -/
def zext64Root (r : BitVec 16) : BitVec 64 := r.setWidth 64

/-- `is_power_of_two(x)` in the form `x ≠ 0` and `x & (x - 1) = 0` (40_size_validator R100). -/
def isPowerOfTwo (x : BitVec 16) : Bool := x != 0#16 && x &&& (x - 1#16) == 0#16

/-- `valid_length(L) = (L ≤ 0xFFFF) and is_power_of_two(L[15:0]) and (L ≥ 2)`
(40_size_validator R102). -/
def validLength (L : BitVec 32) : Bool :=
  L.toNat ≤ 0xFFFF && isPowerOfTwo (L.extractLsb' 0 16) && 2 ≤ L.toNat

end Sys2Proof.Machine
end

