-- ==== Sys2Proof/Machine/Table.lean ====
section
/-! DEFINITION. The bit-reversal permutation network (42_permutation_table): the builder of the
switching table and the permuting load. -/

namespace Sys2Proof.Machine

/-- `bitrev(i, n) = sum over b in [0, n) of i[b] << (n - 1 - b)` (42_permutation_table R120). -/
def bitrev (i n : Nat) : Nat := ((List.range n).map fun b => i / 2 ^ b % 2 * 2 ^ (n - 1 - b)).sum

/-- One inner step of the builder: `v <- tab[k]; tab[2k+1] <- v + M; tab[2k] <- v`
(42_permutation_table R121). -/
def tableEntry (M : Nat) (m : Memory) (k : Nat) : Memory :=
  let v := m.readTab k
  (m.writeTab (2 * k + 1) (v + BitVec.ofNat 16 M)).writeTab (2 * k) v

/-- One doubling in place, `k = M-1 downto 0` (42_permutation_table R121, R122). -/
def tableDouble (m : Memory) (M : Nat) : Memory := (List.range M).reverse.foldl (tableEntry M) m

/-- `build_switching_table(N)`: from the length-1 table, the doublings `M = 1, 2, 4, …, N/2`, of which
there are `log2(N)` (42_permutation_table R121). -/
def buildTable (N : Nat) (m : Memory) : Memory :=
  ((List.range (Nat.log2 N)).map (2 ^ ·)).foldl tableDouble (m.writeTab 0 0#16)

/-- Beat `i` of the payload goes to position `tab[i]` of both buffers, sign-extended
(42_permutation_table R125). -/
def loadBeat (m : Memory) (beat : Sample × Nat) : Memory :=
  let p := (m.readTab beat.2).toNat
  (m.writeRe p (sext64 beat.1.re)).writeIm p (sext64 beat.1.im)

/-- `permute_load(payload)`, beats in arrival order (42_permutation_table R125). -/
def permuteLoad (payload : List Sample) (m : Memory) : Memory := payload.zipIdx.foldl loadBeat m

end Sys2Proof.Machine
end

