-- ==== Sys2Proof/Machine/Arith.lean ====
section
/-! DEFINITION. The arithmetic blocks (44_complex_arith), as functions on exact integers. -/

namespace Sys2Proof.Machine

/-- `rhaz_shr(v, k)`: `v / 2^k` rounded to the nearest integer, ties away from zero (00_scope R11). -/
def rhazShr (v : Int) (k : Nat) : Int :=
  if k = 0 then v
  else if 0 ≤ v then (v + 2 ^ (k - 1)) / 2 ^ k
  else -((-v + 2 ^ (k - 1)) / 2 ^ k)

/-- Complex add (44_complex_arith R151). -/
def cadd (a t : Cplx) : Cplx := ⟨a.re + t.re, a.im + t.im⟩

/-- Complex subtract (44_complex_arith R152). -/
def csub (a t : Cplx) : Cplx := ⟨a.re - t.re, a.im - t.im⟩

/-- Complex-by-twiddle multiply with Q30 rescaling: each component rounded once, after the sum
(44_complex_arith R153). -/
def cmulQ30 (b w : Cplx) : Cplx :=
  ⟨rhazShr (b.re * w.re - b.im * w.im) Config.twFrac,
   rhazShr (b.re * w.im + b.im * w.re) Config.twFrac⟩

/-- The butterfly: `t = w b`, `a' = a + t`, `b' = a - t`, with one `t` for both (44_complex_arith R157). -/
def bfly (a b w : Cplx) : Cplx × Cplx :=
  let t := cmulQ30 b w
  (cadd a t, csub a t)

/-- `scale_n(v, n)`: division by `2^n`, round half away from zero (44_complex_arith R158). -/
def scaleN (v : Int) (n : Nat) : Int := rhazShr v n

end Sys2Proof.Machine
end

