-- ==== Sys2Proof/Machine/TwiddleRomA.lean ====
section
/-! DEFINITION. Literal contents of the quarter-wave cosine ROM, words 0 to 2815
(47_twiddle_rom_data_a, R210 and the start of 48_twiddle_rom_data_b, R211).
Each piece holds 256 words, 32 rows of eight as the spec lays them out. -/

namespace Sys2Proof.Machine

/-- `QROM[0]` to `QROM[255]`. -/
def qromPiece00 : List (List Nat) :=
  [ [1073741824, 1073741804, 1073741745, 1073741646, 1073741508, 1073741331, 1073741113, 1073740857],
    [1073740561, 1073740225, 1073739850, 1073739436, 1073738982, 1073738488, 1073737955, 1073737383],
    [1073736771, 1073736119, 1073735429, 1073734698, 1073733928, 1073733119, 1073732270, 1073731382],
    [1073730454, 1073729487, 1073728480, 1073727434, 1073726348, 1073725223, 1073724059, 1073722855],
    [1073721611, 1073720328, 1073719006, 1073717644, 1073716242, 1073714801, 1073713321, 1073711801],
    [1073710241, 1073708643, 1073707004, 1073705326, 1073703609, 1073701852, 1073700056, 1073698220],
    [1073696345, 1073694431, 1073692476, 1073690483, 1073688450, 1073686377, 1073684265, 1073682113],
    [1073679922, 1073677692, 1073675422, 1073673113, 1073670764, 1073668375, 1073665947, 1073663480],
    [1073660973, 1073658427, 1073655841, 1073653216, 1073650551, 1073647847, 1073645103, 1073642320],
    [1073639498, 1073636635, 1073633734, 1073630793, 1073627812, 1073624792, 1073621733, 1073618634],
    [1073615496, 1073612318, 1073609100, 1073605843, 1073602547, 1073599211, 1073595836, 1073592421],
    [1073588967, 1073585474, 1073581940, 1073578368, 1073574756, 1073571104, 1073567413, 1073563683],
    [1073559913, 1073556103, 1073552254, 1073548366, 1073544438, 1073540471, 1073536464, 1073532418],
    [1073528332, 1073524207, 1073520042, 1073515838, 1073511594, 1073507311, 1073502988, 1073498626],
    [1073494225, 1073489784, 1073485303, 1073480784, 1073476224, 1073471625, 1073466987, 1073462309],
    [1073457592, 1073452835, 1073448039, 1073443203, 1073438328, 1073433414, 1073428460, 1073423466],
    [1073418433, 1073413361, 1073408249, 1073403097, 1073397906, 1073392676, 1073387406, 1073382097],
    [1073376748, 1073371360, 1073365932, 1073360465, 1073354959, 1073349413, 1073343827, 1073338202],
    [1073332538, 1073326834, 1073321091, 1073315308, 1073309485, 1073303624, 1073297722, 1073291782],
    [1073285802, 1073279782, 1073273723, 1073267624, 1073261486, 1073255309, 1073249092, 1073242836],
    [1073236540, 1073230205, 1073223830, 1073217416, 1073210962, 1073204469, 1073197936, 1073191364],
    [1073184753, 1073178102, 1073171411, 1073164682, 1073157912, 1073151103, 1073144255, 1073137367],
    [1073130440, 1073123474, 1073116468, 1073109422, 1073102337, 1073095213, 1073088049, 1073080845],
    [1073073603, 1073066320, 1073058999, 1073051638, 1073044237, 1073036797, 1073029317, 1073021798],
    [1073014240, 1073006642, 1072999005, 1072991328, 1072983612, 1072975856, 1072968061, 1072960226],
    [1072952352, 1072944439, 1072936486, 1072928494, 1072920462, 1072912391, 1072904280, 1072896130],
    [1072887940, 1072879711, 1072871443, 1072863135, 1072854787, 1072846400, 1072837974, 1072829508],
    [1072821003, 1072812458, 1072803874, 1072795251, 1072786588, 1072777886, 1072769144, 1072760362],
    [1072751542, 1072742682, 1072733782, 1072724843, 1072715864, 1072706846, 1072697789, 1072688692],
    [1072679556, 1072670380, 1072661165, 1072651911, 1072642617, 1072633283, 1072623910, 1072614498],
    [1072605046, 1072595555, 1072586024, 1072576454, 1072566845, 1072557196, 1072547508, 1072537780],
    [1072528012, 1072518206, 1072508360, 1072498474, 1072488549, 1072478585, 1072468581, 1072458538] ]

/-- `QROM[256]` to `QROM[511]`. -/
def qromPiece01 : List (List Nat) :=
  [ [1072448455, 1072438333, 1072428171, 1072417970, 1072407730, 1072397450, 1072387131, 1072376772],
    [1072366374, 1072355936, 1072345459, 1072334943, 1072324387, 1072313792, 1072303157, 1072292483],
    [1072281769, 1072271016, 1072260224, 1072249392, 1072238521, 1072227610, 1072216660, 1072205671],
    [1072194642, 1072183573, 1072172466, 1072161318, 1072150132, 1072138906, 1072127640, 1072116335],
    [1072104991, 1072093607, 1072082184, 1072070722, 1072059220, 1072047678, 1072036098, 1072024477],
    [1072012818, 1072001119, 1071989380, 1071977602, 1071965785, 1071953928, 1071942032, 1071930097],
    [1071918122, 1071906107, 1071894054, 1071881960, 1071869828, 1071857656, 1071845445, 1071833194],
    [1071820903, 1071808574, 1071796205, 1071783796, 1071771349, 1071758861, 1071746335, 1071733769],
    [1071721163, 1071708518, 1071695834, 1071683110, 1071670347, 1071657545, 1071644703, 1071631822],
    [1071618901, 1071605941, 1071592941, 1071579902, 1071566824, 1071553706, 1071540549, 1071527353],
    [1071514117, 1071500842, 1071487527, 1071474173, 1071460780, 1071447347, 1071433874, 1071420363],
    [1071406812, 1071393221, 1071379592, 1071365922, 1071352214, 1071338466, 1071324678, 1071310852],
    [1071296985, 1071283080, 1071269135, 1071255151, 1071241127, 1071227064, 1071212961, 1071198819],
    [1071184638, 1071170418, 1071156158, 1071141858, 1071127519, 1071113141, 1071098724, 1071084267],
    [1071069770, 1071055235, 1071040660, 1071026045, 1071011391, 1070996698, 1070981966, 1070967194],
    [1070952382, 1070937532, 1070922641, 1070907712, 1070892743, 1070877735, 1070862687, 1070847600],
    [1070832474, 1070817308, 1070802103, 1070786859, 1070771575, 1070756252, 1070740889, 1070725487],
    [1070710046, 1070694565, 1070679045, 1070663486, 1070647887, 1070632249, 1070616572, 1070600855],
    [1070585099, 1070569303, 1070553468, 1070537594, 1070521680, 1070505727, 1070489735, 1070473703],
    [1070457632, 1070441521, 1070425372, 1070409182, 1070392954, 1070376686, 1070360379, 1070344032],
    [1070327646, 1070311221, 1070294756, 1070278252, 1070261709, 1070245126, 1070228504, 1070211843],
    [1070195142, 1070178402, 1070161623, 1070144804, 1070127946, 1070111048, 1070094111, 1070077135],
    [1070060120, 1070043065, 1070025971, 1070008837, 1069991664, 1069974452, 1069957201, 1069939910],
    [1069922579, 1069905210, 1069887801, 1069870353, 1069852865, 1069835338, 1069817772, 1069800166],
    [1069782521, 1069764837, 1069747114, 1069729351, 1069711548, 1069693707, 1069675826, 1069657906],
    [1069639946, 1069621947, 1069603909, 1069585832, 1069567715, 1069549558, 1069531363, 1069513128],
    [1069494854, 1069476540, 1069458188, 1069439795, 1069421364, 1069402893, 1069384383, 1069365834],
    [1069347245, 1069328617, 1069309950, 1069291243, 1069272497, 1069253712, 1069234887, 1069216023],
    [1069197120, 1069178177, 1069159195, 1069140174, 1069121114, 1069102014, 1069082875, 1069063697],
    [1069044479, 1069025222, 1069005925, 1068986590, 1068967215, 1068947801, 1068928347, 1068908854],
    [1068889322, 1068869751, 1068850140, 1068830490, 1068810801, 1068791072, 1068771304, 1068751497],
    [1068731650, 1068711764, 1068691839, 1068671875, 1068651871, 1068631828, 1068611746, 1068591624] ]

/-- `QROM[512]` to `QROM[767]`. -/
def qromPiece02 : List (List Nat) :=
  [ [1068571464, 1068551263, 1068531024, 1068510745, 1068490427, 1068470070, 1068449673, 1068429238],
    [1068408763, 1068388248, 1068367694, 1068347101, 1068326469, 1068305798, 1068285087, 1068264337],
    [1068243547, 1068222719, 1068201851, 1068180944, 1068159997, 1068139011, 1068117986, 1068096922],
    [1068075818, 1068054676, 1068033493, 1068012272, 1067991011, 1067969712, 1067948372, 1067926994],
    [1067905576, 1067884119, 1067862623, 1067841088, 1067819513, 1067797899, 1067776246, 1067754553],
    [1067732821, 1067711050, 1067689240, 1067667390, 1067645501, 1067623573, 1067601606, 1067579600],
    [1067557554, 1067535469, 1067513344, 1067491181, 1067468978, 1067446736, 1067424454, 1067402134],
    [1067379774, 1067357375, 1067334937, 1067312459, 1067289942, 1067267386, 1067244791, 1067222157],
    [1067199483, 1067176770, 1067154018, 1067131226, 1067108396, 1067085526, 1067062616, 1067039668],
    [1067016680, 1066993654, 1066970587, 1066947482, 1066924338, 1066901154, 1066877931, 1066854669],
    [1066831367, 1066808026, 1066784647, 1066761227, 1066737769, 1066714272, 1066690735, 1066667159],
    [1066643544, 1066619889, 1066596195, 1066572463, 1066548690, 1066524879, 1066501029, 1066477139],
    [1066453210, 1066429242, 1066405234, 1066381188, 1066357102, 1066332977, 1066308813, 1066284610],
    [1066260367, 1066236085, 1066211764, 1066187404, 1066163005, 1066138566, 1066114088, 1066089571],
    [1066065015, 1066040420, 1066015785, 1065991111, 1065966398, 1065941646, 1065916855, 1065892024],
    [1065867154, 1065842245, 1065817297, 1065792310, 1065767284, 1065742218, 1065717113, 1065691969],
    [1065666786, 1065641563, 1065616302, 1065591001, 1065565661, 1065540282, 1065514864, 1065489406],
    [1065463909, 1065438374, 1065412799, 1065387184, 1065361531, 1065335839, 1065310107, 1065284336],
    [1065258526, 1065232677, 1065206789, 1065180861, 1065154894, 1065128889, 1065102844, 1065076759],
    [1065050636, 1065024474, 1064998272, 1064972031, 1064945751, 1064919432, 1064893074, 1064866676],
    [1064840240, 1064813764, 1064787249, 1064760695, 1064734102, 1064707470, 1064680798, 1064654088],
    [1064627338, 1064600549, 1064573721, 1064546854, 1064519947, 1064493002, 1064466017, 1064438994],
    [1064411931, 1064384829, 1064357688, 1064330507, 1064303288, 1064276029, 1064248732, 1064221395],
    [1064194019, 1064166604, 1064139150, 1064111657, 1064084124, 1064056553, 1064028942, 1064001292],
    [1063973603, 1063945875, 1063918108, 1063890302, 1063862456, 1063834572, 1063806648, 1063778685],
    [1063750684, 1063722643, 1063694563, 1063666443, 1063638285, 1063610088, 1063581851, 1063553576],
    [1063525261, 1063496907, 1063468514, 1063440082, 1063411611, 1063383101, 1063354552, 1063325963],
    [1063297336, 1063268669, 1063239964, 1063211219, 1063182435, 1063153612, 1063124750, 1063095849],
    [1063066909, 1063037929, 1063008911, 1062979853, 1062950757, 1062921621, 1062892446, 1062863233],
    [1062833980, 1062804688, 1062775357, 1062745987, 1062716578, 1062687129, 1062657642, 1062628116],
    [1062598550, 1062568946, 1062539302, 1062509619, 1062479898, 1062450137, 1062420337, 1062390498],
    [1062360620, 1062330703, 1062300747, 1062270752, 1062240717, 1062210644, 1062180532, 1062150381] ]

/-- `QROM[768]` to `QROM[1023]`. -/
def qromPiece03 : List (List Nat) :=
  [ [1062120190, 1062089961, 1062059692, 1062029384, 1061999038, 1061968652, 1061938227, 1061907764],
    [1061877261, 1061846719, 1061816138, 1061785518, 1061754859, 1061724161, 1061693424, 1061662648],
    [1061631833, 1061600979, 1061570086, 1061539153, 1061508182, 1061477172, 1061446123, 1061415034],
    [1061383907, 1061352741, 1061321535, 1061290291, 1061259007, 1061227685, 1061196323, 1061164923],
    [1061133483, 1061102005, 1061070487, 1061038931, 1061007335, 1060975701, 1060944027, 1060912314],
    [1060880563, 1060848772, 1060816943, 1060785074, 1060753166, 1060721220, 1060689234, 1060657210],
    [1060625146, 1060593043, 1060560902, 1060528721, 1060496502, 1060464243, 1060431945, 1060399609],
    [1060367233, 1060334819, 1060302365, 1060269873, 1060237341, 1060204771, 1060172161, 1060139513],
    [1060106826, 1060074099, 1060041334, 1060008530, 1059975686, 1059942804, 1059909883, 1059876922],
    [1059843923, 1059810885, 1059777808, 1059744692, 1059711537, 1059678343, 1059645110, 1059611838],
    [1059578527, 1059545177, 1059511788, 1059478361, 1059444894, 1059411388, 1059377844, 1059344260],
    [1059310638, 1059276976, 1059243276, 1059209536, 1059175758, 1059141941, 1059108085, 1059074189],
    [1059040255, 1059006282, 1058972270, 1058938220, 1058904130, 1058870001, 1058835833, 1058801627],
    [1058767381, 1058733097, 1058698773, 1058664411, 1058630010, 1058595570, 1058561091, 1058526573],
    [1058492016, 1058457420, 1058422785, 1058388111, 1058353399, 1058318647, 1058283857, 1058249028],
    [1058214159, 1058179252, 1058144306, 1058109321, 1058074297, 1058039235, 1058004133, 1057968992],
    [1057933813, 1057898595, 1057863337, 1057828041, 1057792706, 1057757332, 1057721919, 1057686468],
    [1057650977, 1057615448, 1057579879, 1057544272, 1057508626, 1057472941, 1057437217, 1057401454],
    [1057365653, 1057329812, 1057293933, 1057258014, 1057222057, 1057186061, 1057150026, 1057113952],
    [1057077840, 1057041688, 1057005498, 1056969269, 1056933001, 1056896694, 1056860348, 1056823963],
    [1056787540, 1056751077, 1056714576, 1056678036, 1056641457, 1056604839, 1056568183, 1056531487],
    [1056494753, 1056457980, 1056421168, 1056384317, 1056347427, 1056310499, 1056273531, 1056236525],
    [1056199480, 1056162396, 1056125274, 1056088112, 1056050912, 1056013673, 1055976395, 1055939078],
    [1055901722, 1055864328, 1055826894, 1055789422, 1055751911, 1055714361, 1055676773, 1055639145],
    [1055601479, 1055563774, 1055526030, 1055488248, 1055450426, 1055412566, 1055374667, 1055336729],
    [1055298753, 1055260737, 1055222683, 1055184590, 1055146458, 1055108287, 1055070078, 1055031830],
    [1054993543, 1054955217, 1054916852, 1054878449, 1054840007, 1054801526, 1054763006, 1054724447],
    [1054685850, 1054647214, 1054608539, 1054569826, 1054531073, 1054492282, 1054453452, 1054414583],
    [1054375676, 1054336730, 1054297745, 1054258721, 1054219658, 1054180557, 1054141417, 1054102238],
    [1054063021, 1054023764, 1053984469, 1053945135, 1053905763, 1053866352, 1053826901, 1053787413],
    [1053747885, 1053708319, 1053668714, 1053629070, 1053589387, 1053549666, 1053509906, 1053470107],
    [1053430270, 1053390394, 1053350479, 1053310525, 1053270533, 1053230502, 1053190432, 1053150323] ]

/-- `QROM[1024]` to `QROM[1279]`. -/
def qromPiece04 : List (List Nat) :=
  [ [1053110176, 1053069990, 1053029765, 1052989502, 1052949200, 1052908859, 1052868479, 1052828061],
    [1052787604, 1052747108, 1052706574, 1052666001, 1052625389, 1052584738, 1052544049, 1052503321],
    [1052462555, 1052421749, 1052380905, 1052340022, 1052299101, 1052258141, 1052217142, 1052176105],
    [1052135029, 1052093914, 1052052760, 1052011568, 1051970337, 1051929068, 1051887759, 1051846413],
    [1051805027, 1051763603, 1051722140, 1051680638, 1051639098, 1051597519, 1051555901, 1051514245],
    [1051472550, 1051430817, 1051389044, 1051347234, 1051305384, 1051263496, 1051221569, 1051179604],
    [1051137599, 1051095557, 1051053475, 1051011355, 1050969196, 1050926999, 1050884763, 1050842488],
    [1050800175, 1050757823, 1050715433, 1050673003, 1050630536, 1050588029, 1050545484, 1050502900],
    [1050460278, 1050417617, 1050374918, 1050332179, 1050289403, 1050246587, 1050203733, 1050160841],
    [1050117909, 1050074939, 1050031931, 1049988884, 1049945798, 1049902674, 1049859511, 1049816310],
    [1049773069, 1049729791, 1049686474, 1049643118, 1049599723, 1049556290, 1049512818, 1049469308],
    [1049425759, 1049382172, 1049338546, 1049294881, 1049251178, 1049207437, 1049163656, 1049119837],
    [1049075980, 1049032084, 1048988149, 1048944176, 1048900165, 1048856114, 1048812025, 1048767898],
    [1048723732, 1048679527, 1048635284, 1048591003, 1048546683, 1048502324, 1048457926, 1048413491],
    [1048369016, 1048324503, 1048279952, 1048235362, 1048190733, 1048146066, 1048101360, 1048056616],
    [1048011834, 1047967012, 1047922153, 1047877254, 1047832317, 1047787342, 1047742328, 1047697276],
    [1047652185, 1047607055, 1047561887, 1047516681, 1047471436, 1047426152, 1047380830, 1047335470],
    [1047290071, 1047244633, 1047199157, 1047153643, 1047108090, 1047062498, 1047016868, 1046971199],
    [1046925492, 1046879747, 1046833963, 1046788140, 1046742279, 1046696380, 1046650442, 1046604466],
    [1046558451, 1046512397, 1046466305, 1046420175, 1046374006, 1046327799, 1046281553, 1046235269],
    [1046188946, 1046142585, 1046096185, 1046049747, 1046003271, 1045956756, 1045910202, 1045863610],
    [1045816980, 1045770311, 1045723604, 1045676858, 1045630074, 1045583251, 1045536390, 1045489490],
    [1045442553, 1045395576, 1045348561, 1045301508, 1045254416, 1045207286, 1045160118, 1045112911],
    [1045065665, 1045018381, 1044971059, 1044923699, 1044876299, 1044828862, 1044781386, 1044733872],
    [1044686319, 1044638728, 1044591098, 1044543430, 1044495724, 1044447979, 1044400196, 1044352374],
    [1044304514, 1044256616, 1044208679, 1044160704, 1044112690, 1044064638, 1044016548, 1043968419],
    [1043920252, 1043872047, 1043823803, 1043775521, 1043727200, 1043678841, 1043630444, 1043582008],
    [1043533534, 1043485021, 1043436471, 1043387881, 1043339254, 1043290588, 1043241884, 1043193141],
    [1043144360, 1043095541, 1043046683, 1042997787, 1042948852, 1042899880, 1042850869, 1042801819],
    [1042752731, 1042703605, 1042654441, 1042605238, 1042555997, 1042506717, 1042457400, 1042408044],
    [1042358649, 1042309216, 1042259745, 1042210236, 1042160688, 1042111102, 1042061478, 1042011815],
    [1041962114, 1041912375, 1041862597, 1041812781, 1041762927, 1041713034, 1041663104, 1041613135] ]

/-- `QROM[1280]` to `QROM[1535]`. -/
def qromPiece05 : List (List Nat) :=
  [ [1041563127, 1041513081, 1041462997, 1041412875, 1041362715, 1041312516, 1041262279, 1041212003],
    [1041161689, 1041111337, 1041060947, 1041010519, 1040960052, 1040909547, 1040859003, 1040808422],
    [1040757802, 1040707143, 1040656447, 1040605712, 1040554939, 1040504128, 1040453279, 1040402391],
    [1040351465, 1040300501, 1040249498, 1040198457, 1040147378, 1040096261, 1040045106, 1039993912],
    [1039942680, 1039891410, 1039840101, 1039788755, 1039737370, 1039685947, 1039634486, 1039582986],
    [1039531448, 1039479872, 1039428258, 1039376606, 1039324915, 1039273186, 1039221419, 1039169614],
    [1039117770, 1039065889, 1039013969, 1038962011, 1038910014, 1038857980, 1038805907, 1038753796],
    [1038701647, 1038649460, 1038597234, 1038544971, 1038492669, 1038440329, 1038387951, 1038335534],
    [1038283080, 1038230587, 1038178056, 1038125487, 1038072880, 1038020234, 1037967551, 1037914829],
    [1037862069, 1037809271, 1037756435, 1037703561, 1037650648, 1037597698, 1037544709, 1037491682],
    [1037438617, 1037385513, 1037332372, 1037279192, 1037225975, 1037172719, 1037119425, 1037066093],
    [1037012723, 1036959314, 1036905868, 1036852383, 1036798861, 1036745300, 1036691701, 1036638064],
    [1036584389, 1036530675, 1036476924, 1036423135, 1036369307, 1036315441, 1036261537, 1036207595],
    [1036153615, 1036099597, 1036045541, 1035991447, 1035937314, 1035883144, 1035828935, 1035774689],
    [1035720404, 1035666081, 1035611720, 1035557321, 1035502884, 1035448409, 1035393896, 1035339345],
    [1035284755, 1035230128, 1035175463, 1035120759, 1035066018, 1035011238, 1034956420, 1034901565],
    [1034846671, 1034791739, 1034736769, 1034681761, 1034626715, 1034571631, 1034516509, 1034461349],
    [1034406151, 1034350915, 1034295641, 1034240329, 1034184978, 1034129590, 1034074164, 1034018700],
    [1033963197, 1033907657, 1033852079, 1033796462, 1033740808, 1033685115, 1033629385, 1033573617],
    [1033517810, 1033461966, 1033406084, 1033350163, 1033294205, 1033238209, 1033182174, 1033126102],
    [1033069992, 1033013843, 1032957657, 1032901433, 1032845170, 1032788870, 1032732532, 1032676156],
    [1032619742, 1032563290, 1032506800, 1032450272, 1032393706, 1032337102, 1032280460, 1032223780],
    [1032167062, 1032110306, 1032053513, 1031996681, 1031939812, 1031882904, 1031825959, 1031768975],
    [1031711954, 1031654895, 1031597797, 1031540662, 1031483489, 1031426278, 1031369029, 1031311742],
    [1031254418, 1031197055, 1031139655, 1031082216, 1031024740, 1030967225, 1030909673, 1030852083],
    [1030794455, 1030736789, 1030679085, 1030621344, 1030563564, 1030505747, 1030447891, 1030389998],
    [1030332067, 1030274098, 1030216091, 1030158046, 1030099963, 1030041843, 1029983684, 1029925488],
    [1029867254, 1029808982, 1029750672, 1029692324, 1029633939, 1029575515, 1029517054, 1029458555],
    [1029400018, 1029341443, 1029282830, 1029224180, 1029165491, 1029106765, 1029048001, 1028989199],
    [1028930359, 1028871482, 1028812566, 1028753613, 1028694622, 1028635593, 1028576527, 1028517422],
    [1028458280, 1028399100, 1028339882, 1028280626, 1028221332, 1028162001, 1028102632, 1028043225],
    [1027983780, 1027924298, 1027864777, 1027805219, 1027745623, 1027685989, 1027626318, 1027566609] ]

/-- `QROM[1536]` to `QROM[1791]`. -/
def qromPiece06 : List (List Nat) :=
  [ [1027506862, 1027447077, 1027387254, 1027327394, 1027267495, 1027207560, 1027147586, 1027087574],
    [1027027525, 1026967438, 1026907313, 1026847151, 1026786951, 1026726713, 1026666437, 1026606123],
    [1026545772, 1026485383, 1026424956, 1026364492, 1026303990, 1026243450, 1026182872, 1026122256],
    [1026061603, 1026000912, 1025940184, 1025879418, 1025818614, 1025757772, 1025696892, 1025635975],
    [1025575020, 1025514028, 1025452997, 1025391929, 1025330824, 1025269680, 1025208499, 1025147280],
    [1025086024, 1025024730, 1024963398, 1024902028, 1024840621, 1024779176, 1024717694, 1024656173],
    [1024594615, 1024533020, 1024471386, 1024409716, 1024348007, 1024286261, 1024224477, 1024162655],
    [1024100796, 1024038899, 1023976964, 1023914992, 1023852982, 1023790935, 1023728850, 1023666727],
    [1023604567, 1023542369, 1023480133, 1023417860, 1023355549, 1023293200, 1023230814, 1023168390],
    [1023105929, 1023043430, 1022980893, 1022918319, 1022855707, 1022793057, 1022730370, 1022667646],
    [1022604883, 1022542083, 1022479246, 1022416371, 1022353458, 1022290508, 1022227520, 1022164495],
    [1022101432, 1022038331, 1021975193, 1021912017, 1021848804, 1021785553, 1021722264, 1021658938],
    [1021595575, 1021532174, 1021468735, 1021405259, 1021341745, 1021278194, 1021214605, 1021150978],
    [1021087314, 1021023613, 1020959873, 1020896097, 1020832283, 1020768431, 1020704542, 1020640615],
    [1020576651, 1020512649, 1020448610, 1020384533, 1020320418, 1020256267, 1020192077, 1020127850],
    [1020063586, 1019999284, 1019934944, 1019870568, 1019806153, 1019741701, 1019677212, 1019612685],
    [1019548121, 1019483519, 1019418879, 1019354203, 1019289488, 1019224736, 1019159947, 1019095120],
    [1019030256, 1018965355, 1018900415, 1018835439, 1018770425, 1018705373, 1018640284, 1018575158],
    [1018509994, 1018444793, 1018379554, 1018314278, 1018248964, 1018183613, 1018118225, 1018052799],
    [1017987335, 1017921834, 1017856296, 1017790720, 1017725107, 1017659457, 1017593769, 1017528044],
    [1017462281, 1017396481, 1017330643, 1017264768, 1017198856, 1017132906, 1017066919, 1017000894],
    [1016934832, 1016868733, 1016802596, 1016736422, 1016670211, 1016603962, 1016537676, 1016471352],
    [1016404991, 1016338593, 1016272157, 1016205684, 1016139173, 1016072626, 1016006040, 1015939418],
    [1015872758, 1015806061, 1015739326, 1015672554, 1015605745, 1015538898, 1015472014, 1015405093],
    [1015338134, 1015271138, 1015204105, 1015137034, 1015069927, 1015002781, 1014935599, 1014868379],
    [1014801122, 1014733827, 1014666495, 1014599126, 1014531720, 1014464276, 1014396795, 1014329277],
    [1014261721, 1014194128, 1014126498, 1014058830, 1013991126, 1013923383, 1013855604, 1013787787],
    [1013719934, 1013652042, 1013584114, 1013516148, 1013448145, 1013380105, 1013312028, 1013243913],
    [1013175761, 1013107572, 1013039345, 1012971081, 1012902780, 1012834442, 1012766067, 1012697654],
    [1012629204, 1012560717, 1012492193, 1012423631, 1012355032, 1012286396, 1012217723, 1012149012],
    [1012080264, 1012011480, 1011942657, 1011873798, 1011804901, 1011735968, 1011666997, 1011597989],
    [1011528943, 1011459861, 1011390741, 1011321584, 1011252390, 1011183159, 1011113890, 1011044585] ]

/-- `QROM[1792]` to `QROM[2047]`. -/
def qromPiece07 : List (List Nat) :=
  [ [1010975242, 1010905862, 1010836445, 1010766991, 1010697499, 1010627970, 1010558405, 1010488802],
    [1010419162, 1010349484, 1010279770, 1010210018, 1010140230, 1010070404, 1010000541, 1009930641],
    [1009860704, 1009790729, 1009720718, 1009650669, 1009580584, 1009510461, 1009440301, 1009370104],
    [1009299870, 1009229598, 1009159290, 1009088944, 1009018562, 1008948142, 1008877685, 1008807191],
    [1008736660, 1008666092, 1008595487, 1008524845, 1008454166, 1008383449, 1008312696, 1008241905],
    [1008171077, 1008100213, 1008029311, 1007958372, 1007887396, 1007816383, 1007745333, 1007674246],
    [1007603122, 1007531961, 1007460763, 1007389528, 1007318256, 1007246946, 1007175600, 1007104217],
    [1007032796, 1006961339, 1006889844, 1006818313, 1006746744, 1006675139, 1006603496, 1006531817],
    [1006460100, 1006388347, 1006316556, 1006244729, 1006172864, 1006100963, 1006029024, 1005957049],
    [1005885036, 1005812987, 1005740900, 1005668777, 1005596617, 1005524419, 1005452185, 1005379913],
    [1005307605, 1005235260, 1005162878, 1005090459, 1005018003, 1004945509, 1004872979, 1004800412],
    [1004727809, 1004655168, 1004582490, 1004509775, 1004437024, 1004364235, 1004291410, 1004218547],
    [1004145648, 1004072711, 1003999738, 1003926728, 1003853681, 1003780597, 1003707476, 1003634319],
    [1003561124, 1003487893, 1003414624, 1003341319, 1003267977, 1003194597, 1003121181, 1003047729],
    [1002974239, 1002900712, 1002827149, 1002753548, 1002679911, 1002606237, 1002532526, 1002458778],
    [1002384994, 1002311172, 1002237314, 1002163418, 1002089486, 1002015517, 1001941512, 1001867469],
    [1001793390, 1001719273, 1001645120, 1001570930, 1001496704, 1001422440, 1001348140, 1001273802],
    [1001199428, 1001125017, 1001050570, 1000976085, 1000901564, 1000827006, 1000752411, 1000677780],
    [1000603111, 1000528406, 1000453664, 1000378885, 1000304069, 1000229217, 1000154328, 1000079402],
    [1000004439, 999929440, 999854404, 999779331, 999704221, 999629074, 999553891, 999478671],
    [999403415, 999328121, 999252791, 999177424, 999102020, 999026580, 998951103, 998875589],
    [998800038, 998724451, 998648827, 998573166, 998497468, 998421734, 998345963, 998270156],
    [998194311, 998118430, 998042512, 997966558, 997890567, 997814539, 997738475, 997662373],
    [997586236, 997510061, 997433850, 997357602, 997281317, 997204996, 997128638, 997052244],
    [996975812, 996899345, 996822840, 996746299, 996669721, 996593107, 996516456, 996439768],
    [996363043, 996286282, 996209485, 996132650, 996055780, 995978872, 995901928, 995824947],
    [995747930, 995670876, 995593785, 995516658, 995439494, 995362294, 995285057, 995207783],
    [995130473, 995053126, 994975743, 994898323, 994820867, 994743373, 994665844, 994588278],
    [994510675, 994433035, 994355360, 994277647, 994199898, 994122112, 994044290, 993966432],
    [993888536, 993810605, 993732636, 993654631, 993576590, 993498512, 993420398, 993342247],
    [993264059, 993185835, 993107575, 993029277, 992950944, 992872574, 992794167, 992715724],
    [992637245, 992558729, 992480176, 992401587, 992322961, 992244299, 992165601, 992086866] ]

/-- `QROM[2048]` to `QROM[2303]`. -/
def qromPiece08 : List (List Nat) :=
  [ [992008094, 991929286, 991850442, 991771561, 991692644, 991613690, 991534700, 991455673],
    [991376610, 991297510, 991218374, 991139202, 991059993, 990980747, 990901465, 990822147],
    [990742793, 990663401, 990583974, 990504510, 990425010, 990345473, 990265900, 990186290],
    [990106644, 990026961, 989947243, 989867487, 989787696, 989707868, 989628003, 989548103],
    [989468165, 989388192, 989308182, 989228136, 989148053, 989067934, 988987779, 988907587],
    [988827359, 988747094, 988666793, 988586456, 988506083, 988425673, 988345227, 988264744],
    [988184225, 988103670, 988023078, 987942450, 987861786, 987781086, 987700349, 987619576],
    [987538766, 987457920, 987377038, 987296120, 987215165, 987134174, 987053147, 986972083],
    [986890984, 986809847, 986728675, 986647466, 986566221, 986484940, 986403623, 986322269],
    [986240879, 986159452, 986077990, 985996491, 985914956, 985833385, 985751777, 985670133],
    [985588453, 985506737, 985424984, 985343195, 985261370, 985179509, 985097612, 985015678],
    [984933708, 984851702, 984769660, 984687581, 984605467, 984523316, 984441129, 984358905],
    [984276646, 984194350, 984112018, 984029650, 983947246, 983864806, 983782329, 983699816],
    [983617267, 983534682, 983452061, 983369404, 983286710, 983203980, 983121214, 983038412],
    [982955574, 982872700, 982789789, 982706843, 982623860, 982540841, 982457786, 982374695],
    [982291568, 982208405, 982125205, 982041970, 981958698, 981875390, 981792047, 981708667],
    [981625251, 981541798, 981458310, 981374786, 981291226, 981207629, 981123997, 981040328],
    [980956623, 980872882, 980789106, 980705293, 980621444, 980537559, 980453638, 980369681],
    [980285688, 980201658, 980117593, 980033492, 979949355, 979865181, 979780972, 979696727],
    [979612445, 979528128, 979443774, 979359385, 979274960, 979190498, 979106001, 979021467],
    [978936898, 978852292, 978767651, 978682973, 978598260, 978513511, 978428725, 978343904],
    [978259047, 978174153, 978089224, 978004259, 977919258, 977834221, 977749148, 977664039],
    [977578894, 977493713, 977408496, 977323243, 977237955, 977152630, 977067269, 976981873],
    [976896441, 976810972, 976725468, 976639928, 976554352, 976468740, 976383092, 976297408],
    [976211688, 976125933, 976040141, 975954314, 975868451, 975782552, 975696617, 975610646],
    [975524639, 975438597, 975352518, 975266404, 975180254, 975094068, 975007846, 974921588],
    [974835295, 974748965, 974662600, 974576199, 974489762, 974403289, 974316781, 974230236],
    [974143656, 974057040, 973970388, 973883701, 973796977, 973710218, 973623423, 973536592],
    [973449725, 973362823, 973275885, 973188911, 973101901, 973014855, 972927774, 972840657],
    [972753504, 972666315, 972579091, 972491831, 972404535, 972317203, 972229836, 972142433],
    [972054994, 971967519, 971880009, 971792462, 971704881, 971617263, 971529610, 971441921],
    [971354196, 971266435, 971178639, 971090807, 971002940, 970915037, 970827098, 970739123] ]

/-- `QROM[2304]` to `QROM[2559]`. -/
def qromPiece09 : List (List Nat) :=
  [ [970651112, 970563066, 970474985, 970386867, 970298714, 970210525, 970122301, 970034041],
    [969945745, 969857414, 969769046, 969680644, 969592205, 969503731, 969415222, 969326676],
    [969238095, 969149479, 969060826, 968972138, 968883415, 968794656, 968705861, 968617031],
    [968528165, 968439263, 968350326, 968261353, 968172345, 968083301, 967994221, 967905106],
    [967815955, 967726769, 967637547, 967548289, 967458996, 967369668, 967280303, 967190904],
    [967101468, 967011997, 966922491, 966832949, 966743371, 966653758, 966564109, 966474425],
    [966384706, 966294950, 966205159, 966115333, 966025471, 965935574, 965845641, 965755673],
    [965665669, 965575630, 965485555, 965395444, 965305298, 965215117, 965124900, 965034648],
    [964944360, 964854037, 964763678, 964673284, 964582854, 964492389, 964401888, 964311352],
    [964220780, 964130173, 964039531, 963948853, 963858140, 963767391, 963676607, 963585787],
    [963494932, 963404042, 963313116, 963222154, 963131157, 963040125, 962949058, 962857955],
    [962766816, 962675643, 962584433, 962493189, 962401909, 962310594, 962219243, 962127857],
    [962036435, 961944978, 961853486, 961761959, 961670396, 961578797, 961487164, 961395495],
    [961303790, 961212051, 961120276, 961028465, 960936620, 960844739, 960752822, 960660870],
    [960568883, 960476861, 960384803, 960292711, 960200582, 960108419, 960016220, 959923986],
    [959831716, 959739411, 959647071, 959554696, 959462286, 959369840, 959277359, 959184842],
    [959092290, 958999703, 958907081, 958814424, 958721731, 958629003, 958536240, 958443441],
    [958350608, 958257739, 958164835, 958071895, 957978921, 957885911, 957792866, 957699786],
    [957606670, 957513519, 957420333, 957327112, 957233856, 957140565, 957047238, 956953876],
    [956860479, 956767047, 956673579, 956580077, 956486539, 956392966, 956299358, 956205715],
    [956112036, 956018323, 955924574, 955830790, 955736971, 955643117, 955549228, 955455303],
    [955361344, 955267349, 955173319, 955079254, 954985154, 954891019, 954796849, 954702644],
    [954608403, 954514128, 954419817, 954325471, 954231090, 954136675, 954042224, 953947738],
    [953853216, 953758660, 953664069, 953569443, 953474781, 953380085, 953285353, 953190587],
    [953095785, 953000948, 952906077, 952811170, 952716228, 952621251, 952526240, 952431193],
    [952336111, 952240994, 952145842, 952050655, 951955434, 951860177, 951764885, 951669558],
    [951574196, 951478799, 951383367, 951287900, 951192399, 951096862, 951001290, 950905684],
    [950810042, 950714365, 950618654, 950522907, 950427126, 950331309, 950235458, 950139572],
    [950043650, 949947694, 949851703, 949755677, 949659616, 949563520, 949467390, 949371224],
    [949275023, 949178788, 949082517, 948986212, 948889872, 948793497, 948697087, 948600642],
    [948504163, 948407648, 948311099, 948214514, 948117895, 948021241, 947924552, 947827828],
    [947731070, 947634276, 947537448, 947440585, 947343687, 947246754, 947149787, 947052784] ]

/-- `QROM[2560]` to `QROM[2815]`. -/
def qromPiece10 : List (List Nat) :=
  [ [946955747, 946858675, 946761568, 946664426, 946567250, 946470039, 946372792, 946275512],
    [946178196, 946080845, 945983460, 945886040, 945788585, 945691096, 945593571, 945496012],
    [945398418, 945300790, 945203126, 945105428, 945007695, 944909928, 944812125, 944714288],
    [944616416, 944518510, 944420568, 944322592, 944224582, 944126536, 944028456, 943930341],
    [943832191, 943734007, 943635788, 943537534, 943439246, 943340923, 943242565, 943144173],
    [943045745, 942947284, 942848787, 942750256, 942651690, 942553090, 942454455, 942355785],
    [942257081, 942158341, 942059568, 941960759, 941861917, 941763039, 941664127, 941565180],
    [941466198, 941367182, 941268132, 941169046, 941069926, 940970772, 940871583, 940772359],
    [940673101, 940573808, 940474481, 940375119, 940275722, 940176291, 940076825, 939977325],
    [939877790, 939778220, 939678616, 939578978, 939479305, 939379597, 939279855, 939180078],
    [939080267, 938980422, 938880541, 938780626, 938680677, 938580693, 938480675, 938380622],
    [938280535, 938180413, 938080257, 937980066, 937879841, 937779581, 937679287, 937578958],
    [937478595, 937378197, 937277765, 937177298, 937076797, 936976262, 936875692, 936775087],
    [936674448, 936573775, 936473067, 936372325, 936271549, 936170738, 936069892, 935969012],
    [935868098, 935767149, 935666166, 935565149, 935464097, 935363011, 935261890, 935160735],
    [935059546, 934958322, 934857064, 934755771, 934654444, 934553083, 934451687, 934350257],
    [934248793, 934147294, 934045761, 933944194, 933842592, 933740956, 933639286, 933537581],
    [933435842, 933334068, 933232261, 933130419, 933028542, 932926632, 932824687, 932722708],
    [932620694, 932518646, 932416564, 932314448, 932212297, 932110112, 932007893, 931905640],
    [931803352, 931701030, 931598674, 931496283, 931393859, 931291400, 931188906, 931086379],
    [930983817, 930881221, 930778591, 930675927, 930573228, 930470495, 930367728, 930264927],
    [930162092, 930059222, 929956318, 929853380, 929750408, 929647402, 929544361, 929441286],
    [929338177, 929235034, 929131857, 929028646, 928925400, 928822120, 928718807, 928615459],
    [928512076, 928408660, 928305210, 928201725, 928098206, 927994654, 927891067, 927787446],
    [927683790, 927580101, 927476378, 927372620, 927268829, 927165003, 927061143, 926957249],
    [926853322, 926749360, 926645363, 926541333, 926437269, 926333171, 926229039, 926124872],
    [926020672, 925916437, 925812169, 925707866, 925603530, 925499159, 925394754, 925290316],
    [925185843, 925081336, 924976795, 924872221, 924767612, 924662969, 924558292, 924453582],
    [924348837, 924244058, 924139246, 924034399, 923929518, 923824604, 923719655, 923614672],
    [923509656, 923404605, 923299521, 923194403, 923089250, 922984064, 922878844, 922773590],
    [922668302, 922562980, 922457624, 922352234, 922246810, 922141353, 922035861, 921930336],
    [921824777, 921719183, 921613556, 921507895, 921402200, 921296472, 921190709, 921084913] ]

end Sys2Proof.Machine
end

