-- ==== Sys2Proof/Machine/TwiddleRomB.lean ====
section
/-! DEFINITION. Literal contents of the quarter-wave cosine ROM, words 2816 to 5631
(48_twiddle_rom_data_b, R211 and the start of 49_twiddle_rom_data_c, R212).
Each piece holds 256 words, 32 rows of eight as the spec lays them out. -/

namespace Sys2Proof.Machine

/-- `QROM[2816]` to `QROM[3071]`. -/
def qromPiece11 : List (List Nat) :=
  [ [920979082, 920873218, 920767320, 920661388, 920555422, 920449423, 920343389, 920237322],
    [920131221, 920025086, 919918917, 919812714, 919706478, 919600208, 919493904, 919387566],
    [919281194, 919174789, 919068349, 918961876, 918855369, 918748829, 918642254, 918535646],
    [918429004, 918322328, 918215619, 918108876, 918002099, 917895288, 917788443, 917681565],
    [917574653, 917467707, 917360728, 917253715, 917146668, 917039587, 916932473, 916825325],
    [916718143, 916610928, 916503678, 916396395, 916289079, 916181729, 916074345, 915966927],
    [915859476, 915751991, 915644472, 915536920, 915429334, 915321714, 915214061, 915106374],
    [914998653, 914890899, 914783111, 914675290, 914567435, 914459546, 914351624, 914243668],
    [914135678, 914027655, 913919598, 913811507, 913703383, 913595226, 913487035, 913378810],
    [913270551, 913162259, 913053934, 912945575, 912837182, 912728756, 912620296, 912511803],
    [912403276, 912294715, 912186121, 912077494, 911968833, 911860138, 911751410, 911642649],
    [911533853, 911425025, 911316163, 911207267, 911098338, 910989375, 910880379, 910771349],
    [910662286, 910553189, 910444059, 910334896, 910225699, 910116468, 910007204, 909897907],
    [909788576, 909679211, 909569814, 909460382, 909350918, 909241420, 909131888, 909022323],
    [908912725, 908803093, 908693428, 908583729, 908473997, 908364231, 908254433, 908144600],
    [908034735, 907924836, 907814903, 907704938, 907594938, 907484906, 907374840, 907264741],
    [907154608, 907044442, 906934243, 906824010, 906713744, 906603445, 906493112, 906382746],
    [906272347, 906161914, 906051448, 905940949, 905830417, 905719851, 905609251, 905498619],
    [905387953, 905277254, 905166522, 905055756, 904944957, 904834125, 904723260, 904612361],
    [904501429, 904390464, 904279465, 904168434, 904057369, 903946270, 903835139, 903723974],
    [903612776, 903501545, 903390281, 903278983, 903167653, 903056289, 902944892, 902833461],
    [902721998, 902610501, 902498971, 902387408, 902275811, 902164182, 902052519, 901940824],
    [901829095, 901717332, 901605537, 901493709, 901381847, 901269952, 901158025, 901046064],
    [900934069, 900822042, 900709982, 900597888, 900485762, 900373602, 900261409, 900149183],
    [900036924, 899924632, 899812307, 899699949, 899587557, 899475133, 899362675, 899250185],
    [899137661, 899025105, 898912515, 898799892, 898687236, 898574547, 898461825, 898349070],
    [898236282, 898123461, 898010607, 897897720, 897784800, 897671847, 897558861, 897445842],
    [897332790, 897219705, 897106587, 896993436, 896880252, 896767035, 896653785, 896540502],
    [896427186, 896313837, 896200456, 896087041, 895973593, 895860112, 895746599, 895633052],
    [895519473, 895405861, 895292215, 895178537, 895064826, 894951082, 894837305, 894723495],
    [894609652, 894495777, 894381868, 894267927, 894153953, 894039945, 893925905, 893811832],
    [893697727, 893583588, 893469417, 893355212, 893240975, 893126705, 893012402, 892898067] ]

/-- `QROM[3072]` to `QROM[3327]`. -/
def qromPiece12 : List (List Nat) :=
  [ [892783698, 892669297, 892554863, 892440396, 892325896, 892211363, 892096798, 891982200],
    [891867569, 891752905, 891638208, 891523479, 891408717, 891293922, 891179094, 891064234],
    [890949341, 890834415, 890719456, 890604465, 890489440, 890374383, 890259294, 890144171],
    [890029016, 889913828, 889798608, 889683354, 889568068, 889452750, 889337398, 889222014],
    [889106597, 888991148, 888875666, 888760151, 888644603, 888529023, 888413410, 888297764],
    [888182086, 888066375, 887950632, 887834856, 887719047, 887603205, 887487331, 887371425],
    [887255485, 887139513, 887023509, 886907471, 886791402, 886675299, 886559164, 886442997],
    [886326796, 886210564, 886094298, 885978000, 885861670, 885745307, 885628911, 885512483],
    [885396022, 885279529, 885163003, 885046444, 884929853, 884813230, 884696574, 884579885],
    [884463164, 884346411, 884229624, 884112806, 883995955, 883879071, 883762155, 883645206],
    [883528225, 883411212, 883294165, 883177087, 883059976, 882942832, 882825656, 882708448],
    [882591207, 882473934, 882356628, 882239290, 882121919, 882004516, 881887080, 881769613],
    [881652112, 881534579, 881417014, 881299417, 881181787, 881064124, 880946429, 880828702],
    [880710943, 880593151, 880475326, 880357470, 880239581, 880121659, 880003705, 879885719],
    [879767701, 879649650, 879531567, 879413451, 879295303, 879177123, 879058911, 878940666],
    [878822389, 878704079, 878585737, 878467363, 878348957, 878230518, 878112047, 877993544],
    [877875009, 877756441, 877637841, 877519208, 877400544, 877281847, 877163118, 877044356],
    [876925563, 876806737, 876687879, 876568988, 876450066, 876331111, 876212124, 876093105],
    [875974054, 875854970, 875735854, 875616706, 875497526, 875378313, 875259069, 875139792],
    [875020483, 874901142, 874781769, 874662363, 874542925, 874423456, 874303954, 874184420],
    [874064853, 873945255, 873825625, 873705962, 873586267, 873466540, 873346781, 873226990],
    [873107167, 872987312, 872867424, 872747505, 872627553, 872507570, 872387554, 872267506],
    [872147426, 872027314, 871907170, 871786994, 871666786, 871546546, 871426274, 871305970],
    [871185633, 871065265, 870944865, 870824432, 870703968, 870583472, 870462943, 870342383],
    [870221790, 870101166, 869980510, 869859821, 869739101, 869618348, 869497564, 869376748],
    [869255900, 869135019, 869014107, 868893163, 868772187, 868651179, 868530139, 868409067],
    [868287963, 868166828, 868045660, 867924460, 867803229, 867681966, 867560670, 867439343],
    [867317984, 867196593, 867075170, 866953716, 866832229, 866710710, 866589160, 866467578],
    [866345964, 866224318, 866102640, 865980931, 865859189, 865737416, 865615611, 865493774],
    [865371905, 865250004, 865128072, 865006108, 864884112, 864762084, 864640024, 864517933],
    [864395810, 864273655, 864151468, 864029250, 863906999, 863784717, 863662404, 863540058],
    [863417681, 863295272, 863172831, 863050358, 862927854, 862805318, 862682750, 862560151] ]

/-- `QROM[3328]` to `QROM[3583]`. -/
def qromPiece13 : List (List Nat) :=
  [ [862437520, 862314857, 862192163, 862069436, 861946678, 861823889, 861701067, 861578214],
    [861455330, 861332413, 861209465, 861086486, 860963474, 860840431, 860717357, 860594250],
    [860471112, 860347943, 860224742, 860101509, 859978244, 859854948, 859731620, 859608261],
    [859484870, 859361448, 859237994, 859114508, 858990991, 858867442, 858743861, 858620249],
    [858496606, 858372931, 858249224, 858125486, 858001716, 857877914, 857754081, 857630217],
    [857506321, 857382394, 857258434, 857134444, 857010422, 856886368, 856762283, 856638167],
    [856514019, 856389839, 856265628, 856141385, 856017111, 855892806, 855768469, 855644100],
    [855519701, 855395269, 855270806, 855146312, 855021787, 854897229, 854772641, 854648021],
    [854523370, 854398687, 854273973, 854149227, 854024450, 853899641, 853774802, 853649930],
    [853525028, 853400094, 853275128, 853150132, 853025104, 852900044, 852774953, 852649831],
    [852524677, 852399493, 852274276, 852149029, 852023750, 851898440, 851773098, 851647725],
    [851522321, 851396886, 851271419, 851145921, 851020391, 850894831, 850769239, 850643616],
    [850517961, 850392275, 850266558, 850140810, 850015030, 849889220, 849763378, 849637504],
    [849511600, 849385664, 849259697, 849133699, 849007669, 848881609, 848755517, 848629394],
    [848503239, 848377054, 848250837, 848124589, 847998310, 847872000, 847745659, 847619286],
    [847492882, 847366447, 847239981, 847113484, 846986956, 846860396, 846733806, 846607184],
    [846480531, 846353847, 846227132, 846100386, 845973608, 845846800, 845719960, 845593090],
    [845466188, 845339255, 845212291, 845085296, 844958270, 844831213, 844704125, 844577006],
    [844449856, 844322674, 844195462, 844068218, 843940944, 843813638, 843686302, 843558934],
    [843431536, 843304106, 843176646, 843049154, 842921632, 842794078, 842666494, 842538878],
    [842411232, 842283554, 842155846, 842028106, 841900336, 841772535, 841644702, 841516839],
    [841388945, 841261020, 841133064, 841005077, 840877059, 840749010, 840620931, 840492820],
    [840364679, 840236506, 840108303, 839980069, 839851804, 839723508, 839595181, 839466823],
    [839338435, 839210015, 839081565, 838953084, 838824572, 838696029, 838567456, 838438851],
    [838310216, 838181550, 838052853, 837924125, 837795367, 837666577, 837537757, 837408906],
    [837280024, 837151112, 837022168, 836893194, 836764190, 836635154, 836506088, 836376990],
    [836247863, 836118704, 835989515, 835860294, 835731044, 835601762, 835472450, 835343107],
    [835213733, 835084329, 834954893, 834825428, 834695931, 834566404, 834436846, 834307257],
    [834177638, 834047988, 833918308, 833788596, 833658855, 833529082, 833399279, 833269445],
    [833139580, 833009685, 832879760, 832749803, 832619816, 832489799, 832359750, 832229672],
    [832099562, 831969422, 831839252, 831709050, 831578819, 831448556, 831318263, 831187940],
    [831057586, 830927201, 830796786, 830666341, 830535864, 830405358, 830274820, 830144252] ]

/-- `QROM[3584]` to `QROM[3839]`. -/
def qromPiece14 : List (List Nat) :=
  [ [830013654, 829883025, 829752366, 829621676, 829490956, 829360205, 829229423, 829098612],
    [828967769, 828836896, 828705993, 828575059, 828444095, 828313100, 828182075, 828051020],
    [827919934, 827788817, 827657670, 827526493, 827395285, 827264047, 827132778, 827001479],
    [826870150, 826738790, 826607400, 826475979, 826344528, 826213047, 826081535, 825949993],
    [825818421, 825686818, 825555185, 825423521, 825291827, 825160103, 825028348, 824896563],
    [824764748, 824632902, 824501026, 824369120, 824237184, 824105217, 823973220, 823841192],
    [823709135, 823577047, 823444928, 823312780, 823180601, 823048392, 822916152, 822783883],
    [822651583, 822519253, 822386892, 822254502, 822122081, 821989630, 821857149, 821724637],
    [821592095, 821459524, 821326921, 821194289, 821061627, 820928934, 820796211, 820663458],
    [820530675, 820397861, 820265018, 820132144, 819999240, 819866306, 819733342, 819600348],
    [819467323, 819334269, 819201184, 819068069, 818934924, 818801749, 818668544, 818535309],
    [818402043, 818268748, 818135422, 818002067, 817868681, 817735265, 817601820, 817468344],
    [817334838, 817201302, 817067736, 816934140, 816800514, 816666858, 816533171, 816399455],
    [816265709, 816131933, 815998127, 815864290, 815730424, 815596528, 815462602, 815328646],
    [815194659, 815060643, 814926597, 814792521, 814658415, 814524279, 814390113, 814255917],
    [814121692, 813987436, 813853150, 813718835, 813584489, 813450114, 813315708, 813181273],
    [813046808, 812912313, 812777788, 812643233, 812508649, 812374034, 812239390, 812104715],
    [811970011, 811835277, 811700513, 811565720, 811430896, 811296043, 811161160, 811026247],
    [810891304, 810756331, 810621329, 810486297, 810351235, 810216143, 810081021, 809945870],
    [809810688, 809675477, 809540237, 809404966, 809269666, 809134336, 808998976, 808863587],
    [808728167, 808592718, 808457240, 808321731, 808186193, 808050625, 807915028, 807779400],
    [807643743, 807508057, 807372340, 807236594, 807100819, 806965013, 806829178, 806693313],
    [806557419, 806421495, 806285541, 806149558, 806013545, 805877502, 805741430, 805605328],
    [805469196, 805333035, 805196845, 805060624, 804924374, 804788095, 804651786, 804515447],
    [804379079, 804242681, 804106253, 803969796, 803833310, 803696794, 803560248, 803423673],
    [803287068, 803150434, 803013770, 802877077, 802740354, 802603602, 802466820, 802330008],
    [802193167, 802056297, 801919397, 801782468, 801645509, 801508521, 801371503, 801234456],
    [801097379, 800960273, 800823137, 800685972, 800548778, 800411554, 800274300, 800137018],
    [799999706, 799862364, 799724993, 799587593, 799450163, 799312704, 799175215, 799037697],
    [798900150, 798762573, 798624967, 798487331, 798349667, 798211972, 798074249, 797936496],
    [797798714, 797660902, 797523061, 797385191, 797247292, 797109363, 796971405, 796833417],
    [796695401, 796557355, 796419279, 796281175, 796143041, 796004878, 795866685, 795728464] ]

/-- `QROM[3840]` to `QROM[4095]`. -/
def qromPiece15 : List (List Nat) :=
  [ [795590213, 795451933, 795313623, 795175285, 795036917, 794898520, 794760093, 794621638],
    [794483153, 794344639, 794206096, 794067523, 793928922, 793790291, 793651631, 793512942],
    [793374223, 793235476, 793096699, 792957894, 792819059, 792680194, 792541301, 792402379],
    [792263427, 792124447, 791985437, 791846398, 791707330, 791568233, 791429106, 791289951],
    [791150767, 791011553, 790872310, 790733039, 790593738, 790454408, 790315049, 790175661],
    [790036244, 789896798, 789757323, 789617819, 789478286, 789338724, 789199133, 789059512],
    [788919863, 788780185, 788640478, 788500741, 788360976, 788221182, 788081359, 787941507],
    [787801625, 787661715, 787521776, 787381808, 787241811, 787101785, 786961731, 786821647],
    [786681534, 786541392, 786401222, 786261022, 786120794, 785980537, 785840250, 785699935],
    [785559591, 785419219, 785278817, 785138386, 784997927, 784857438, 784716921, 784576375],
    [784435800, 784295197, 784154564, 784013903, 783873212, 783732493, 783591746, 783450969],
    [783310163, 783169329, 783028466, 782887574, 782746654, 782605704, 782464726, 782323719],
    [782182683, 782041619, 781900526, 781759404, 781618253, 781477073, 781335865, 781194628],
    [781053363, 780912068, 780770745, 780629393, 780488013, 780346604, 780205166, 780063699],
    [779922204, 779780680, 779639128, 779497546, 779355936, 779214298, 779072631, 778930935],
    [778789210, 778647457, 778505675, 778363865, 778222026, 778080158, 777938262, 777796337],
    [777654384, 777512402, 777370391, 777228352, 777086284, 776944188, 776802063, 776659910],
    [776517728, 776375517, 776233278, 776091010, 775948714, 775806389, 775664036, 775521654],
    [775379244, 775236805, 775094338, 774951842, 774809318, 774666765, 774524184, 774381574],
    [774238936, 774096269, 773953574, 773810851, 773668099, 773525318, 773382509, 773239672],
    [773096806, 772953912, 772810989, 772668038, 772525059, 772382051, 772239015, 772095950],
    [771952857, 771809736, 771666586, 771523408, 771380201, 771236966, 771093703, 770950412],
    [770807092, 770663743, 770520367, 770376962, 770233528, 770090067, 769946577, 769803059],
    [769659512, 769515937, 769372334, 769228703, 769085043, 768941355, 768797639, 768653895],
    [768510122, 768366321, 768222492, 768078634, 767934748, 767790834, 767646892, 767502922],
    [767358923, 767214896, 767070841, 766926758, 766782646, 766638507, 766494339, 766350143],
    [766205919, 766061666, 765917386, 765773077, 765628740, 765484375, 765339982, 765195561],
    [765051111, 764906634, 764762128, 764617594, 764473032, 764328442, 764183824, 764039178],
    [763894504, 763749801, 763605071, 763460312, 763315525, 763170711, 763025868, 762880997],
    [762736098, 762591171, 762446217, 762301234, 762156223, 762011184, 761866116, 761721021],
    [761575898, 761430747, 761285568, 761140361, 760995126, 760849863, 760704572, 760559253],
    [760413906, 760268531, 760123129, 759977698, 759832239, 759686753, 759541238, 759395695] ]

/-- `QROM[4096]` to `QROM[4351]`. -/
def qromPiece16 : List (List Nat) :=
  [ [759250125, 759104527, 758958900, 758813246, 758667564, 758521854, 758376116, 758230351],
    [758084557, 757938736, 757792886, 757647009, 757501104, 757355171, 757209210, 757063222],
    [756917205, 756771161, 756625089, 756478989, 756332861, 756186706, 756040522, 755894311],
    [755748072, 755601806, 755455511, 755309189, 755162839, 755016461, 754870056, 754723622],
    [754577161, 754430672, 754284156, 754137612, 753991040, 753844440, 753697812, 753551157],
    [753404474, 753257764, 753111025, 752964260, 752817466, 752670645, 752523796, 752376919],
    [752230015, 752083083, 751936123, 751789136, 751642121, 751495078, 751348008, 751200910],
    [751053785, 750906632, 750759451, 750612243, 750465007, 750317744, 750170453, 750023134],
    [749875788, 749728414, 749581013, 749433584, 749286127, 749138644, 748991132, 748843593],
    [748696026, 748548432, 748400811, 748253161, 748105485, 747957781, 747810049, 747662290],
    [747514503, 747366689, 747218847, 747070978, 746923082, 746775158, 746627206, 746479227],
    [746331221, 746183187, 746035126, 745887037, 745738921, 745590777, 745442606, 745294408],
    [745146182, 744997929, 744849649, 744701341, 744553005, 744404643, 744256253, 744107835],
    [743959390, 743810918, 743662419, 743513892, 743365338, 743216756, 743068147, 742919511],
    [742770848, 742622157, 742473439, 742324694, 742175921, 742027121, 741878294, 741729439],
    [741580558, 741431649, 741282712, 741133749, 740984758, 740835740, 740686694, 740537622],
    [740388522, 740239395, 740090241, 739941060, 739791851, 739642615, 739493352, 739344062],
    [739194745, 739045400, 738896028, 738746630, 738597203, 738447750, 738298270, 738148762],
    [737999228, 737849666, 737700077, 737550461, 737400818, 737251148, 737101450, 736951726],
    [736801974, 736652196, 736502390, 736352557, 736202697, 736052810, 735902896, 735752955],
    [735602987, 735452992, 735302970, 735152920, 735002844, 734852741, 734702610, 734552453],
    [734402269, 734252057, 734101819, 733951554, 733801261, 733650942, 733500596, 733350223],
    [733199822, 733049395, 732898941, 732748460, 732597952, 732447417, 732296855, 732146267],
    [731995651, 731845008, 731694339, 731543642, 731392919, 731242169, 731091392, 730940588],
    [730789757, 730638899, 730488014, 730337103, 730186165, 730035200, 729884208, 729733189],
    [729582143, 729431071, 729279971, 729128845, 728977692, 728826513, 728675306, 728524073],
    [728372813, 728221526, 728070212, 727918872, 727767504, 727616111, 727464690, 727313242],
    [727161768, 727010267, 726858740, 726707185, 726555604, 726403996, 726252362, 726100701],
    [725949013, 725797298, 725645557, 725493789, 725341994, 725190173, 725038325, 724886450],
    [724734549, 724582621, 724430667, 724278685, 724126677, 723974643, 723822582, 723670494],
    [723518380, 723366239, 723214072, 723061877, 722909657, 722757410, 722605136, 722452835],
    [722300508, 722148155, 721995775, 721843368, 721690935, 721538475, 721385989, 721233476] ]

/-- `QROM[4352]` to `QROM[4607]`. -/
def qromPiece17 : List (List Nat) :=
  [ [721080937, 720928371, 720775779, 720623160, 720470515, 720317843, 720165145, 720012420],
    [719859669, 719706891, 719554087, 719401257, 719248400, 719095516, 718942606, 718789670],
    [718636707, 718483718, 718330702, 718177660, 718024592, 717871497, 717718376, 717565228],
    [717412054, 717258854, 717105627, 716952374, 716799095, 716645789, 716492457, 716339098],
    [716185713, 716032302, 715878864, 715725401, 715571910, 715418394, 715264851, 715111282],
    [714957687, 714804065, 714650417, 714496743, 714343043, 714189316, 714035563, 713881784],
    [713727978, 713574146, 713420288, 713266404, 713112494, 712958557, 712804594, 712650605],
    [712496590, 712342549, 712188481, 712034387, 711880267, 711726121, 711571948, 711417750],
    [711263525, 711109274, 710954997, 710800694, 710646365, 710492010, 710337628, 710183221],
    [710028787, 709874327, 709719841, 709565329, 709410791, 709256227, 709101636, 708947020],
    [708792378, 708637709, 708483015, 708328294, 708173547, 708018775, 707863976, 707709151],
    [707554301, 707399424, 707244521, 707089592, 706934638, 706779657, 706624650, 706469617],
    [706314559, 706159474, 706004363, 705849227, 705694064, 705538876, 705383661, 705228421],
    [705073155, 704917862, 704762544, 704607200, 704451830, 704296435, 704141013, 703985565],
    [703830092, 703674592, 703519067, 703363516, 703207939, 703052336, 702896707, 702741053],
    [702585372, 702429666, 702273934, 702118176, 701962393, 701806583, 701650748, 701494887],
    [701339000, 701183087, 701027149, 700871184, 700715194, 700559179, 700403137, 700247070],
    [700090977, 699934858, 699778714, 699622543, 699466348, 699310126, 699153879, 698997605],
    [698841307, 698684982, 698528632, 698372256, 698215855, 698059428, 697902975, 697746496],
    [697589992, 697433462, 697276907, 697120326, 696963719, 696807087, 696650429, 696493745],
    [696337036, 696180301, 696023541, 695866755, 695709943, 695553106, 695396243, 695239355],
    [695082441, 694925502, 694768537, 694611546, 694454530, 694297489, 694140422, 693983329],
    [693826211, 693669067, 693511898, 693354703, 693197483, 693040238, 692882966, 692725670],
    [692568348, 692411000, 692253627, 692096229, 691938805, 691781356, 691623881, 691466381],
    [691308855, 691151304, 690993728, 690836126, 690678499, 690520846, 690363168, 690205465],
    [690047736, 689889982, 689732202, 689574397, 689416567, 689258712, 689100831, 688942924],
    [688784993, 688627036, 688469054, 688311046, 688153013, 687994955, 687836872, 687678763],
    [687520629, 687362470, 687204285, 687046075, 686887840, 686729580, 686571294, 686412983],
    [686254647, 686096286, 685937899, 685779488, 685621051, 685462588, 685304101, 685145588],
    [684987051, 684828488, 684669900, 684511286, 684352648, 684193984, 684035295, 683876581],
    [683717842, 683559078, 683400289, 683241474, 683082635, 682923770, 682764880, 682605965],
    [682447025, 682288060, 682129070, 681970055, 681811014, 681651949, 681492858, 681333743] ]

/-- `QROM[4608]` to `QROM[4863]`. -/
def qromPiece18 : List (List Nat) :=
  [ [681174602, 681015436, 680856246, 680697030, 680537789, 680378524, 680219233, 680059917],
    [679900576, 679741210, 679581820, 679422404, 679262963, 679103497, 678944007, 678784491],
    [678624950, 678465385, 678305794, 678146179, 677986538, 677826873, 677667183, 677507468],
    [677347728, 677187963, 677028173, 676868358, 676708518, 676548654, 676388765, 676228850],
    [676068911, 675908947, 675748958, 675588945, 675428906, 675268843, 675108755, 674948642],
    [674788504, 674628341, 674468154, 674307941, 674147704, 673987443, 673827156, 673666845],
    [673506508, 673346148, 673185762, 673025352, 672864916, 672704456, 672543972, 672383462],
    [672222928, 672062370, 671901786, 671741178, 671580545, 671419887, 671259205, 671098498],
    [670937767, 670777010, 670616229, 670455424, 670294593, 670133738, 669972859, 669811955],
    [669651026, 669490072, 669329094, 669168092, 669007064, 668846013, 668684936, 668523835],
    [668362709, 668201559, 668040385, 667879185, 667717961, 667556713, 667395440, 667234142],
    [667072820, 666911474, 666750103, 666588707, 666427287, 666265842, 666104373, 665942880],
    [665781362, 665619819, 665458252, 665296660, 665135044, 664973404, 664811739, 664650050],
    [664488336, 664326598, 664164835, 664003048, 663841237, 663679401, 663517541, 663355656],
    [663193747, 663031814, 662869856, 662707874, 662545867, 662383836, 662221781, 662059701],
    [661897597, 661735469, 661573317, 661411140, 661248938, 661086713, 660924463, 660762189],
    [660599890, 660437568, 660275220, 660112849, 659950454, 659788034, 659625590, 659463121],
    [659300629, 659138112, 658975571, 658813005, 658650416, 658487802, 658325164, 658162502],
    [657999816, 657837105, 657674370, 657511611, 657348828, 657186021, 657023190, 656860334],
    [656697454, 656534550, 656371622, 656208670, 656045694, 655882694, 655719669, 655556620],
    [655393548, 655230451, 655067330, 654904185, 654741016, 654577823, 654414606, 654251364],
    [654088099, 653924810, 653761496, 653598159, 653434797, 653271412, 653108002, 652944569],
    [652781111, 652617629, 652454124, 652290594, 652127041, 651963463, 651799862, 651636236],
    [651472587, 651308914, 651145216, 650981495, 650817750, 650653981, 650490188, 650326371],
    [650162530, 649998665, 649834777, 649670864, 649506928, 649342967, 649178983, 649014975],
    [648850943, 648686887, 648522808, 648358704, 648194577, 648030426, 647866251, 647702052],
    [647537830, 647373583, 647209313, 647045019, 646880701, 646716360, 646551994, 646387605],
    [646223192, 646058755, 645894295, 645729811, 645565303, 645400771, 645236216, 645071637],
    [644907034, 644742408, 644577757, 644413083, 644248386, 644083665, 643918920, 643754151],
    [643589359, 643424543, 643259703, 643094840, 642929953, 642765042, 642600108, 642435150],
    [642270169, 642105163, 641940135, 641775083, 641610007, 641444907, 641279784, 641114637],
    [640949467, 640784274, 640619056, 640453815, 640288551, 640123263, 639957951, 639792616] ]

/-- `QROM[4864]` to `QROM[5119]`. -/
def qromPiece19 : List (List Nat) :=
  [ [639627258, 639461876, 639296470, 639131041, 638965588, 638800112, 638634613, 638469090],
    [638303543, 638137973, 637972380, 637806763, 637641122, 637475459, 637309771, 637144061],
    [636978327, 636812569, 636646788, 636480984, 636315156, 636149305, 635983430, 635817532],
    [635651611, 635485666, 635319698, 635153707, 634987692, 634821654, 634655593, 634489508],
    [634323400, 634157268, 633991114, 633824936, 633658734, 633492510, 633326262, 633159990],
    [632993696, 632827378, 632661037, 632494673, 632328285, 632161874, 631995440, 631828983],
    [631662503, 631495999, 631329472, 631162922, 630996348, 630829752, 630663132, 630496489],
    [630329823, 630163134, 629996421, 629829685, 629662927, 629496145, 629329340, 629162511],
    [628995660, 628828785, 628661888, 628494967, 628328023, 628161056, 627994066, 627827053],
    [627660017, 627492958, 627325875, 627158770, 626991641, 626824490, 626657315, 626490118],
    [626322897, 626155653, 625988387, 625821097, 625653784, 625486448, 625319090, 625151708],
    [624984303, 624816875, 624649425, 624481951, 624314455, 624146935, 623979393, 623811827],
    [623644239, 623476627, 623308993, 623141336, 622973656, 622805953, 622638227, 622470478],
    [622302707, 622134912, 621967095, 621799255, 621631392, 621463506, 621295597, 621127665],
    [620959711, 620791733, 620623733, 620455710, 620287664, 620119596, 619951504, 619783390],
    [619615253, 619447093, 619278911, 619110706, 618942478, 618774227, 618605953, 618437657],
    [618269338, 618100996, 617932631, 617764244, 617595834, 617427402, 617258946, 617090468],
    [616921967, 616753444, 616584898, 616416329, 616247738, 616079124, 615910487, 615741827],
    [615573145, 615404441, 615235714, 615066964, 614898191, 614729396, 614560578, 614391738],
    [614222875, 614053989, 613885081, 613716151, 613547198, 613378222, 613209223, 613040203],
    [612871159, 612702093, 612533005, 612363894, 612194760, 612025604, 611856426, 611687225],
    [611518001, 611348755, 611179487, 611010196, 610840882, 610671547, 610502188, 610332808],
    [610163404, 609993979, 609824531, 609655060, 609485567, 609316052, 609146514, 608976954],
    [608807372, 608637767, 608468140, 608298490, 608128818, 607959124, 607789407, 607619668],
    [607449906, 607280123, 607110317, 606940488, 606770638, 606600765, 606430869, 606260952],
    [606091012, 605921050, 605751065, 605581058, 605411029, 605240978, 605070905, 604900809],
    [604730691, 604560551, 604390388, 604220204, 604049997, 603879768, 603709516, 603539243],
    [603368947, 603198629, 603028289, 602857927, 602687543, 602517136, 602346707, 602176256],
    [602005783, 601835288, 601664771, 601494232, 601323670, 601153087, 600982481, 600811853],
    [600641203, 600470531, 600299837, 600129121, 599958383, 599787623, 599616840, 599446036],
    [599275210, 599104361, 598933491, 598762598, 598591684, 598420747, 598249789, 598078808],
    [597907806, 597736782, 597565735, 597394667, 597223576, 597052464, 596881330, 596710174] ]

/-- `QROM[5120]` to `QROM[5375]`. -/
def qromPiece20 : List (List Nat) :=
  [ [596538995, 596367795, 596196573, 596025329, 595854063, 595682776, 595511466, 595340134],
    [595168781, 594997406, 594826008, 594654589, 594483148, 594311686, 594140201, 593968694],
    [593797166, 593625616, 593454044, 593282450, 593110835, 592939197, 592767538, 592595857],
    [592424154, 592252429, 592080683, 591908915, 591737125, 591565313, 591393480, 591221625],
    [591049748, 590877849, 590705929, 590533987, 590362023, 590190038, 590018030, 589846002],
    [589673951, 589501879, 589329785, 589157669, 588985532, 588813373, 588641192, 588468990],
    [588296766, 588124521, 587952254, 587779965, 587607655, 587435323, 587262969, 587090594],
    [586918198, 586745779, 586573340, 586400878, 586228395, 586055891, 585883365, 585710817],
    [585538248, 585365657, 585193045, 585020411, 584847756, 584675079, 584502381, 584329661],
    [584156920, 583984157, 583811373, 583638568, 583465740, 583292892, 583120022, 582947131],
    [582774218, 582601283, 582428328, 582255351, 582082352, 581909332, 581736291, 581563228],
    [581390144, 581217039, 581043912, 580870764, 580697594, 580524403, 580351191, 580177957],
    [580004702, 579831426, 579658129, 579484810, 579311470, 579138108, 578964725, 578791321],
    [578617896, 578444449, 578270981, 578097492, 577923982, 577750450, 577576897, 577403323],
    [577229728, 577056111, 576882473, 576708814, 576535134, 576361433, 576187710, 576013966],
    [575840202, 575666415, 575492608, 575318780, 575144930, 574971059, 574797167, 574623254],
    [574449320, 574275365, 574101389, 573927391, 573753372, 573579333, 573405272, 573231190],
    [573057087, 572882963, 572708818, 572534652, 572360465, 572186257, 572012027, 571837777],
    [571663506, 571489213, 571314900, 571140566, 570966210, 570791834, 570617437, 570443018],
    [570268579, 570094119, 569919637, 569745135, 569570612, 569396068, 569221503, 569046917],
    [568872310, 568697683, 568523034, 568348364, 568173674, 567998962, 567824230, 567649477],
    [567474703, 567299908, 567125093, 566950256, 566775399, 566600520, 566425621, 566250701],
    [566075761, 565900799, 565725817, 565550814, 565375790, 565200745, 565025679, 564850593],
    [564675486, 564500358, 564325210, 564150040, 563974850, 563799639, 563624408, 563449156],
    [563273883, 563098589, 562923275, 562747940, 562572584, 562397207, 562221810, 562046392],
    [561870954, 561695495, 561520015, 561344515, 561168994, 560993452, 560817890, 560642307],
    [560466703, 560291079, 560115434, 559939769, 559764083, 559588376, 559412649, 559236902],
    [559061133, 558885345, 558709535, 558533705, 558357855, 558181984, 558006093, 557830181],
    [557654248, 557478295, 557302322, 557126328, 556950313, 556774278, 556598223, 556422147],
    [556246051, 556069934, 555893797, 555717639, 555541461, 555365262, 555189044, 555012804],
    [554836544, 554660264, 554483964, 554307643, 554131301, 553954940, 553778558, 553602155],
    [553425732, 553249289, 553072826, 552896342, 552719838, 552543313, 552366769, 552190204] ]

/-- `QROM[5376]` to `QROM[5631]`. -/
def qromPiece21 : List (List Nat) :=
  [ [552013618, 551837013, 551660387, 551483740, 551307074, 551130387, 550953680, 550776953],
    [550600205, 550423437, 550246649, 550069841, 549893013, 549716164, 549539295, 549362406],
    [549185496, 549008567, 548831617, 548654647, 548477657, 548300647, 548123617, 547946566],
    [547769495, 547592405, 547415294, 547238162, 547061011, 546883840, 546706649, 546529437],
    [546352205, 546174954, 545997682, 545820390, 545643078, 545465746, 545288394, 545111022],
    [544933630, 544756218, 544578785, 544401333, 544223861, 544046369, 543868856, 543691324],
    [543513772, 543336200, 543158607, 542980995, 542803363, 542625711, 542448039, 542270347],
    [542092635, 541914903, 541737151, 541559380, 541381588, 541203777, 541025945, 540848094],
    [540670223, 540492332, 540314421, 540136490, 539958539, 539780569, 539602578, 539424568],
    [539246538, 539068488, 538890418, 538712329, 538534220, 538356090, 538177942, 537999773],
    [537821584, 537643376, 537465148, 537286900, 537108633, 536930345, 536752038, 536573712],
    [536395365, 536216999, 536038613, 535860207, 535681782, 535503337, 535324872, 535146388],
    [534967884, 534789360, 534610817, 534432254, 534253671, 534075069, 533896447, 533717805],
    [533539144, 533360463, 533181762, 533003042, 532824303, 532645543, 532466765, 532287966],
    [532109148, 531930311, 531751453, 531572577, 531393681, 531214765, 531035830, 530856875],
    [530677900, 530498907, 530319893, 530140860, 529961808, 529782736, 529603645, 529424534],
    [529245404, 529066254, 528887085, 528707897, 528528689, 528349461, 528170214, 527990948],
    [527811662, 527632357, 527453033, 527273689, 527094325, 526914943, 526735541, 526556119],
    [526376678, 526197218, 526017739, 525838240, 525658722, 525479184, 525299627, 525120051],
    [524940456, 524760841, 524581207, 524401554, 524221881, 524042189, 523862478, 523682748],
    [523502998, 523323229, 523143441, 522963634, 522783807, 522603961, 522424096, 522244212],
    [522064309, 521884386, 521704444, 521524483, 521344503, 521164504, 520984485, 520804448],
    [520624391, 520444315, 520264220, 520084105, 519903972, 519723820, 519543648, 519363457],
    [519183248, 519003019, 518822771, 518642504, 518462218, 518281913, 518101588, 517921245],
    [517740883, 517560502, 517380101, 517199682, 517019243, 516838786, 516658310, 516477814],
    [516297300, 516116767, 515936214, 515755643, 515575053, 515394443, 515213815, 515033168],
    [514852502, 514671817, 514491113, 514310390, 514129648, 513948888, 513768108, 513587310],
    [513406493, 513225656, 513044801, 512863927, 512683035, 512502123, 512321192, 512140243],
    [511959275, 511778288, 511597282, 511416258, 511235214, 511054152, 510873071, 510691971],
    [510510853, 510329715, 510148559, 509967385, 509786191, 509604979, 509423748, 509242498],
    [509061229, 508879942, 508698636, 508517311, 508335968, 508154606, 507973225, 507791826],
    [507610408, 507428971, 507247516, 507066042, 506884549, 506703038, 506521508, 506339959] ]

end Sys2Proof.Machine
end

