-- ==== Sys2Proof/Machine/TwiddleRomC.lean ====
section
/-! DEFINITION. Literal contents of the quarter-wave cosine ROM, words 5632 to 8192
(49_twiddle_rom_data_c, R212).
Each piece holds 256 words, 32 rows of eight as the spec lays them out. -/

namespace Sys2Proof.Machine

/-- `QROM[5632]` to `QROM[5887]`. -/
def qromPiece22 : List (List Nat) :=
  [ [506158392, 505976806, 505795202, 505613579, 505431937, 505250277, 505068598, 504886901],
    [504705185, 504523451, 504341698, 504159926, 503978136, 503796328, 503614500, 503432655],
    [503250791, 503068908, 502887007, 502705087, 502523149, 502341193, 502159217, 501977224],
    [501795212, 501613182, 501431133, 501249065, 501066980, 500884875, 500702753, 500520612],
    [500338453, 500156275, 499974079, 499791864, 499609631, 499427380, 499245110, 499062822],
    [498880516, 498698191, 498515848, 498333487, 498151107, 497968709, 497786293, 497603858],
    [497421405, 497238934, 497056444, 496873937, 496691410, 496508866, 496326304, 496143723],
    [495961124, 495778506, 495595871, 495413217, 495230545, 495047855, 494865147, 494682420],
    [494499676, 494316913, 494134132, 493951332, 493768515, 493585679, 493402826, 493219954],
    [493037064, 492854156, 492671229, 492488285, 492305322, 492122342, 491939343, 491756326],
    [491573292, 491390239, 491207168, 491024079, 490840972, 490657847, 490474703, 490291542],
    [490108363, 489925166, 489741950, 489558717, 489375466, 489192197, 489008909, 488825604],
    [488642281, 488458940, 488275581, 488092204, 487908809, 487725396, 487541965, 487358516],
    [487175049, 486991564, 486808062, 486624541, 486441003, 486257447, 486073873, 485890281],
    [485706671, 485523043, 485339398, 485155734, 484972053, 484788354, 484604637, 484420902],
    [484237150, 484053379, 483869591, 483685785, 483501962, 483318120, 483134261, 482950384],
    [482766489, 482582577, 482398646, 482214698, 482030733, 481846749, 481662748, 481478729],
    [481294693, 481110638, 480926566, 480742477, 480558369, 480374244, 480190102, 480005941],
    [479821764, 479637568, 479453355, 479269124, 479084875, 478900609, 478716326, 478532024],
    [478347705, 478163369, 477979015, 477794643, 477610254, 477425847, 477241423, 477056981],
    [476872522, 476688045, 476503550, 476319038, 476134509, 475949962, 475765397, 475580815],
    [475396216, 475211599, 475026964, 474842312, 474657643, 474472956, 474288252, 474103530],
    [473918791, 473734035, 473549261, 473364469, 473179660, 472994834, 472809991, 472625130],
    [472440251, 472255356, 472070443, 471885512, 471700564, 471515599, 471330617, 471145617],
    [470960600, 470775566, 470590514, 470405445, 470220358, 470035255, 469850134, 469664996],
    [469479840, 469294668, 469109478, 468924271, 468739046, 468553804, 468368545, 468183269],
    [467997976, 467812665, 467627338, 467441993, 467256631, 467071251, 466885855, 466700441],
    [466515010, 466329562, 466144097, 465958615, 465773116, 465587599, 465402066, 465216515],
    [465030947, 464845362, 464659760, 464474141, 464288505, 464102852, 463917181, 463731494],
    [463545789, 463360068, 463174329, 462988574, 462802801, 462617012, 462431205, 462245382],
    [462059541, 461873683, 461687809, 461501917, 461316009, 461130083, 460944141, 460758182],
    [460572205, 460386212, 460200202, 460014175, 459828131, 459642070, 459455992, 459269897] ]

/-- `QROM[5888]` to `QROM[6143]`. -/
def qromPiece23 : List (List Nat) :=
  [ [459083786, 458897657, 458711512, 458525350, 458339171, 458152975, 457966762, 457780533],
    [457594286, 457408023, 457221743, 457035446, 456849132, 456662802, 456476455, 456290091],
    [456103710, 455917312, 455730898, 455544467, 455358019, 455171554, 454985073, 454798575],
    [454612060, 454425528, 454238980, 454052415, 453865834, 453679235, 453492620, 453305989],
    [453119340, 452932676, 452745994, 452559296, 452372581, 452185849, 451999101, 451812336],
    [451625555, 451438757, 451251942, 451065111, 450878263, 450691399, 450504518, 450317620],
    [450130706, 449943776, 449756829, 449569865, 449382885, 449195888, 449008875, 448821845],
    [448634799, 448447736, 448260657, 448073561, 447886449, 447699320, 447512175, 447325013],
    [447137835, 446950641, 446763430, 446576203, 446388959, 446201699, 446014422, 445827129],
    [445639820, 445452494, 445265152, 445077794, 444890419, 444703028, 444515620, 444328196],
    [444140756, 443953299, 443765826, 443578337, 443390832, 443203310, 443015772, 442828217],
    [442640647, 442453060, 442265456, 442077837, 441890201, 441702549, 441514881, 441327197],
    [441139496, 440951779, 440764046, 440576297, 440388531, 440200749, 440012951, 439825137],
    [439637307, 439449461, 439261598, 439073719, 438885824, 438697913, 438509986, 438322043],
    [438134084, 437946108, 437758117, 437570109, 437382085, 437194045, 437005989, 436817917],
    [436629829, 436441725, 436253605, 436065469, 435877317, 435689148, 435500964, 435312764],
    [435124548, 434936315, 434748067, 434559803, 434371523, 434183226, 433994914, 433806586],
    [433618242, 433429882, 433241506, 433053114, 432864706, 432676283, 432487843, 432299387],
    [432110916, 431922429, 431733926, 431545406, 431356872, 431168321, 430979754, 430791172],
    [430602573, 430413959, 430225329, 430036683, 429848022, 429659344, 429470651, 429281942],
    [429093217, 428904477, 428715720, 428526948, 428338160, 428149357, 427960537, 427771702],
    [427582852, 427393985, 427205103, 427016205, 426827291, 426638362, 426449417, 426260456],
    [426071480, 425882488, 425693480, 425504457, 425315418, 425126363, 424937293, 424748207],
    [424559105, 424369988, 424180855, 423991707, 423802543, 423613364, 423424169, 423234958],
    [423045732, 422856490, 422667233, 422477960, 422288671, 422099368, 421910048, 421720713],
    [421531363, 421341997, 421152615, 420963219, 420773806, 420584378, 420394935, 420205476],
    [420016002, 419826512, 419637007, 419447487, 419257951, 419068399, 418878833, 418689250],
    [418499653, 418310040, 418120411, 417930768, 417741109, 417551434, 417361744, 417172039],
    [416982319, 416792583, 416602832, 416413065, 416223284, 416033487, 415843674, 415653847],
    [415464004, 415274145, 415084272, 414894383, 414704479, 414514560, 414324625, 414134676],
    [413944711, 413754731, 413564735, 413374725, 413184699, 412994658, 412804602, 412614530],
    [412424444, 412234342, 412044226, 411854094, 411663946, 411473784, 411283607, 411093414] ]

/-- `QROM[6144]` to `QROM[6399]`. -/
def qromPiece24 : List (List Nat) :=
  [ [410903207, 410712984, 410522746, 410332493, 410142225, 409951942, 409761644, 409571331],
    [409381002, 409190659, 409000301, 408809927, 408619539, 408429135, 408238717, 408048283],
    [407857835, 407667371, 407476893, 407286400, 407095891, 406905368, 406714829, 406524276],
    [406333708, 406143124, 405952526, 405761913, 405571285, 405380642, 405189985, 404999312],
    [404808624, 404617922, 404427204, 404236472, 404045725, 403854963, 403664186, 403473395],
    [403282588, 403091767, 402900931, 402710080, 402519214, 402328334, 402137438, 401946528],
    [401755603, 401564664, 401373709, 401182740, 400991756, 400800758, 400609744, 400418716],
    [400227673, 400036616, 399845543, 399654456, 399463355, 399272238, 399081107, 398889962],
    [398698801, 398507626, 398316436, 398125232, 397934013, 397742779, 397551531, 397360268],
    [397168991, 396977699, 396786392, 396595071, 396403735, 396212385, 396021020, 395829640],
    [395638246, 395446837, 395255414, 395063977, 394872524, 394681058, 394489576, 394298081],
    [394106570, 393915046, 393723506, 393531953, 393340384, 393148802, 392957205, 392765593],
    [392573967, 392382327, 392190672, 391999003, 391807319, 391615621, 391423908, 391232181],
    [391040440, 390848685, 390656915, 390465130, 390273331, 390081518, 389889691, 389697849],
    [389505993, 389314123, 389122238, 388930339, 388738426, 388546498, 388354556, 388162600],
    [387970630, 387778645, 387586646, 387394633, 387202605, 387010563, 386818508, 386626437],
    [386434353, 386242254, 386050142, 385858015, 385665873, 385473718, 385281549, 385089365],
    [384897167, 384704955, 384512729, 384320489, 384128234, 383935966, 383743683, 383551386],
    [383359076, 383166751, 382974412, 382782058, 382589691, 382397310, 382204915, 382012505],
    [381820082, 381627644, 381435193, 381242727, 381050248, 380857754, 380665247, 380472725],
    [380280190, 380087640, 379895077, 379702499, 379509908, 379317303, 379124683, 378932050],
    [378739403, 378546742, 378354067, 378161378, 377968675, 377775958, 377583228, 377390483],
    [377197725, 377004952, 376812166, 376619366, 376426553, 376233725, 376040883, 375848028],
    [375655159, 375462276, 375269379, 375076469, 374883544, 374690606, 374497654, 374304689],
    [374111709, 373918716, 373725709, 373532688, 373339654, 373146606, 372953544, 372760469],
    [372567379, 372374276, 372181160, 371988029, 371794885, 371601728, 371408556, 371215371],
    [371022173, 370828960, 370635734, 370442495, 370249242, 370055975, 369862694, 369669400],
    [369476093, 369282772, 369089437, 368896089, 368702727, 368509351, 368315962, 368122560],
    [367929144, 367735714, 367542271, 367348814, 367155344, 366961861, 366768363, 366574853],
    [366381329, 366187791, 365994240, 365800676, 365607098, 365413506, 365219902, 365026283],
    [364832652, 364639007, 364445348, 364251676, 364057991, 363864292, 363670580, 363476855],
    [363283116, 363089364, 362895598, 362701820, 362508027, 362314222, 362120403, 361926571] ]

/-- `QROM[6400]` to `QROM[6655]`. -/
def qromPiece25 : List (List Nat) :=
  [ [361732726, 361538867, 361344995, 361151110, 360957211, 360763299, 360569374, 360375436],
    [360181484, 359987519, 359793541, 359599550, 359405545, 359211527, 359017496, 358823452],
    [358629395, 358435324, 358241241, 358047144, 357853034, 357658910, 357464774, 357270625],
    [357076462, 356882286, 356688097, 356493895, 356299680, 356105452, 355911211, 355716956],
    [355522689, 355328408, 355134115, 354939808, 354745488, 354551155, 354356810, 354162451],
    [353968079, 353773694, 353579296, 353384885, 353190461, 352996025, 352801575, 352607112],
    [352412636, 352218147, 352023646, 351829131, 351634604, 351440063, 351245510, 351050943],
    [350856364, 350661772, 350467167, 350272549, 350077918, 349883275, 349688618, 349493949],
    [349299266, 349104571, 348909863, 348715143, 348520409, 348325663, 348130904, 347936132],
    [347741347, 347546549, 347351739, 347156916, 346962080, 346767231, 346572370, 346377496],
    [346182609, 345987710, 345792797, 345597872, 345402934, 345207984, 345013021, 344818045],
    [344623057, 344428056, 344233042, 344038015, 343842976, 343647924, 343452860, 343257783],
    [343062693, 342867591, 342672476, 342477349, 342282209, 342087056, 341891891, 341696713],
    [341501523, 341306320, 341111104, 340915876, 340720636, 340525383, 340330117, 340134839],
    [339939549, 339744245, 339548930, 339353602, 339158261, 338962908, 338767543, 338572165],
    [338376774, 338181372, 337985956, 337790529, 337595089, 337399636, 337204171, 337008694],
    [336813204, 336617702, 336422188, 336226661, 336031121, 335835570, 335640006, 335444430],
    [335248841, 335053240, 334857627, 334662002, 334466364, 334270714, 334075051, 333879376],
    [333683689, 333487990, 333292279, 333096555, 332900819, 332705071, 332509310, 332313537],
    [332117752, 331921955, 331726146, 331530324, 331334491, 331138645, 330942787, 330746916],
    [330551034, 330355139, 330159233, 329963314, 329767383, 329571440, 329375485, 329179517],
    [328983538, 328787546, 328591543, 328395527, 328199499, 328003459, 327807407, 327611343],
    [327415267, 327219179, 327023079, 326826967, 326630843, 326434707, 326238559, 326042399],
    [325846226, 325650042, 325453846, 325257638, 325061418, 324865186, 324668942, 324472687],
    [324276419, 324080139, 323883848, 323687544, 323491229, 323294901, 323098562, 322902211],
    [322705848, 322509473, 322313087, 322116688, 321920278, 321723856, 321527422, 321330976],
    [321134518, 320938049, 320741568, 320545074, 320348570, 320152053, 319955525, 319758984],
    [319562433, 319365869, 319169293, 318972706, 318776108, 318579497, 318382875, 318186241],
    [317989595, 317792938, 317596268, 317399588, 317202895, 317006191, 316809475, 316612748],
    [316416009, 316219258, 316022496, 315825722, 315628937, 315432140, 315235331, 315038510],
    [314841679, 314644835, 314447980, 314251113, 314054235, 313857346, 313660444, 313463532],
    [313266607, 313069671, 312872724, 312675765, 312478795, 312281813, 312084820, 311887815] ]

/-- `QROM[6656]` to `QROM[6911]`. -/
def qromPiece26 : List (List Nat) :=
  [ [311690799, 311493771, 311296732, 311099681, 310902619, 310705546, 310508461, 310311365],
    [310114257, 309917138, 309720007, 309522865, 309325712, 309128547, 308931371, 308734184],
    [308536985, 308339775, 308142554, 307945321, 307748077, 307550822, 307353555, 307156277],
    [306958988, 306761687, 306564375, 306367052, 306169718, 305972372, 305775015, 305577647],
    [305380268, 305182877, 304985475, 304788062, 304590638, 304393203, 304195756, 303998298],
    [303800829, 303603349, 303405858, 303208355, 303010842, 302813317, 302615781, 302418234],
    [302220676, 302023107, 301825526, 301627935, 301430332, 301232719, 301035094, 300837458],
    [300639811, 300442153, 300244484, 300046804, 299849113, 299651411, 299453698, 299255974],
    [299058239, 298860493, 298662736, 298464968, 298267189, 298069399, 297871598, 297673786],
    [297475964, 297278130, 297080285, 296882430, 296684563, 296486686, 296288797, 296090898],
    [295892988, 295695067, 295497135, 295299192, 295101239, 294903274, 294705299, 294507313],
    [294309316, 294111308, 293913290, 293715260, 293517220, 293319169, 293121107, 292923035],
    [292724951, 292526857, 292328753, 292130637, 291932511, 291734374, 291536226, 291338067],
    [291139898, 290941718, 290743528, 290545326, 290347114, 290148892, 289950658, 289752414],
    [289554160, 289355894, 289157619, 288959332, 288761035, 288562727, 288364409, 288166080],
    [287967740, 287769390, 287571029, 287372658, 287174276, 286975883, 286777480, 286579067],
    [286380643, 286182208, 285983763, 285785307, 285586841, 285388364, 285189877, 284991380],
    [284792871, 284594353, 284395824, 284197284, 283998734, 283800174, 283601603, 283403022],
    [283204430, 283005828, 282807215, 282608593, 282409959, 282211316, 282012662, 281813997],
    [281615322, 281416637, 281217942, 281019236, 280820520, 280621793, 280423056, 280224309],
    [280025552, 279826784, 279628006, 279429218, 279230419, 279031610, 278832791, 278633962],
    [278435122, 278236273, 278037413, 277838542, 277639662, 277440771, 277241870, 277042959],
    [276844038, 276645106, 276446165, 276247213, 276048251, 275849279, 275650297, 275451304],
    [275252302, 275053289, 274854267, 274655234, 274456191, 274257138, 274058075, 273859001],
    [273659918, 273460825, 273261722, 273062608, 272863485, 272664351, 272465208, 272266054],
    [272066891, 271867717, 271668533, 271469340, 271270136, 271070923, 270871700, 270672466],
    [270473223, 270273969, 270074706, 269875433, 269676150, 269476857, 269277554, 269078241],
    [268878918, 268679586, 268480243, 268280891, 268081529, 267882157, 267682775, 267483383],
    [267283981, 267084570, 266885149, 266685718, 266486277, 266286826, 266087366, 265887896],
    [265688415, 265488926, 265289426, 265089917, 264890398, 264690869, 264491331, 264291782],
    [264092224, 263892657, 263693079, 263493492, 263293896, 263094289, 262894673, 262695047],
    [262495412, 262295767, 262096112, 261896448, 261696774, 261497090, 261297397, 261097694] ]

/-- `QROM[6912]` to `QROM[7167]`. -/
def qromPiece27 : List (List Nat) :=
  [ [260897982, 260698260, 260498528, 260298787, 260099036, 259899276, 259699506, 259499726],
    [259299937, 259100139, 258900331, 258700513, 258500686, 258300850, 258101004, 257901148],
    [257701283, 257501409, 257301525, 257101631, 256901728, 256701816, 256501894, 256301963],
    [256102022, 255902072, 255702113, 255502144, 255302166, 255102178, 254902181, 254702175],
    [254502159, 254302134, 254102099, 253902056, 253702003, 253501940, 253301868, 253101787],
    [252901697, 252701597, 252501488, 252301370, 252101242, 251901105, 251700959, 251500804],
    [251300640, 251100466, 250900283, 250700090, 250499889, 250299678, 250099458, 249899229],
    [249698991, 249498743, 249298487, 249098221, 248897946, 248697662, 248497369, 248297066],
    [248096755, 247896434, 247696104, 247495765, 247295417, 247095060, 246894694, 246694319],
    [246493935, 246293541, 246093139, 245892727, 245692307, 245491877, 245291439, 245090991],
    [244890535, 244690069, 244489594, 244289111, 244088618, 243888117, 243687606, 243487087],
    [243286558, 243086021, 242885475, 242684919, 242484355, 242283782, 242083200, 241882609],
    [241682010, 241481401, 241280783, 241080157, 240879522, 240678878, 240478225, 240277563],
    [240076892, 239876213, 239675524, 239474827, 239274121, 239073407, 238872683, 238671951],
    [238471210, 238270460, 238069701, 237868934, 237668158, 237467373, 237266579, 237065777],
    [236864966, 236664146, 236463318, 236262481, 236061635, 235860781, 235659918, 235459046],
    [235258165, 235057276, 234856378, 234655472, 234454557, 234253633, 234052701, 233851760],
    [233650811, 233449853, 233248886, 233047911, 232846927, 232645935, 232444934, 232243924],
    [232042906, 231841880, 231640845, 231439801, 231238749, 231037689, 230836620, 230635542],
    [230434456, 230233362, 230032259, 229831147, 229630027, 229428899, 229227762, 229026617],
    [228825464, 228624302, 228423131, 228221952, 228020765, 227819570, 227618366, 227417153],
    [227215933, 227014704, 226813466, 226612220, 226410966, 226209704, 226008433, 225807154],
    [225605867, 225404571, 225203267, 225001955, 224800635, 224599306, 224397969, 224196624],
    [223995270, 223793909, 223592539, 223391161, 223189774, 222988380, 222786977, 222585566],
    [222384147, 222182720, 221981284, 221779840, 221578389, 221376929, 221175461, 220973984],
    [220772500, 220571007, 220369507, 220167998, 219966481, 219764957, 219563424, 219361883],
    [219160334, 218958776, 218757211, 218555638, 218354057, 218152467, 217950870, 217749265],
    [217547651, 217346030, 217144401, 216942763, 216741118, 216539465, 216337804, 216136135],
    [215934457, 215732772, 215531079, 215329378, 215127670, 214925953, 214724228, 214522496],
    [214320755, 214119007, 213917251, 213715487, 213513715, 213311935, 213110148, 212908352],
    [212706549, 212504738, 212302919, 212101092, 211899258, 211697415, 211495565, 211293708],
    [211091842, 210889969, 210688087, 210486199, 210284302, 210082398, 209880485, 209678566] ]

/-- `QROM[7168]` to `QROM[7423]`. -/
def qromPiece28 : List (List Nat) :=
  [ [209476638, 209274703, 209072760, 208870810, 208668851, 208466885, 208264912, 208062931],
    [207860942, 207658945, 207456941, 207254929, 207052910, 206850883, 206648848, 206446806],
    [206244756, 206042698, 205840633, 205638561, 205436481, 205234393, 205032298, 204830195],
    [204628085, 204425967, 204223842, 204021709, 203819569, 203617421, 203415265, 203213103],
    [203010932, 202808755, 202606569, 202404377, 202202177, 201999969, 201797754, 201595532],
    [201393302, 201191065, 200988820, 200786568, 200584309, 200382042, 200179768, 199977487],
    [199775198, 199572902, 199370598, 199168287, 198965969, 198763644, 198561311, 198358971],
    [198156624, 197954269, 197751907, 197549538, 197347161, 197144778, 196942387, 196739989],
    [196537583, 196335170, 196132751, 195930324, 195727889, 195525448, 195322999, 195120543],
    [194918080, 194715610, 194513133, 194310648, 194108156, 193905658, 193703152, 193500639],
    [193298119, 193095591, 192893057, 192690515, 192487967, 192285411, 192082849, 191880279],
    [191677702, 191475118, 191272527, 191069929, 190867324, 190664712, 190462093, 190259467],
    [190056834, 189854195, 189651548, 189448894, 189246233, 189043565, 188840890, 188638208],
    [188435520, 188232824, 188030122, 187827412, 187624696, 187421973, 187219242, 187016505],
    [186813762, 186611011, 186408253, 186205489, 186002717, 185799939, 185597154, 185394362],
    [185191564, 184988758, 184785946, 184583127, 184380301, 184177469, 183974629, 183771783],
    [183568930, 183366071, 183163204, 182960331, 182757451, 182554565, 182351671, 182148771],
    [181945865, 181742951, 181540031, 181337105, 181134171, 180931231, 180728284, 180525331],
    [180322371, 180119405, 179916431, 179713451, 179510465, 179307472, 179104472, 178901466],
    [178698453, 178495434, 178292408, 178089375, 177886336, 177683291, 177480239, 177277180],
    [177074115, 176871043, 176667965, 176464880, 176261789, 176058691, 175855587, 175652477],
    [175449360, 175246236, 175043106, 174839970, 174636827, 174433678, 174230522, 174027360],
    [173824192, 173621017, 173417836, 173214648, 173011454, 172808254, 172605047, 172401834],
    [172198615, 171995389, 171792157, 171588919, 171385674, 171182423, 170979166, 170775902],
    [170572633, 170369357, 170166074, 169962786, 169759491, 169556190, 169352882, 169149569],
    [168946249, 168742923, 168539591, 168336252, 168132908, 167929557, 167726200, 167522837],
    [167319468, 167116093, 166912711, 166709323, 166505929, 166302530, 166099124, 165895711],
    [165692293, 165488869, 165285438, 165082002, 164878559, 164675111, 164471656, 164268195],
    [164064728, 163861256, 163657777, 163454292, 163250801, 163047304, 162843801, 162640292],
    [162436778, 162233257, 162029730, 161826197, 161622659, 161419114, 161215564, 161012007],
    [160808445, 160604876, 160401302, 160197722, 159994136, 159790544, 159586946, 159383343],
    [159179733, 158976118, 158772497, 158568870, 158365237, 158161598, 157957954, 157754303] ]

/-- `QROM[7424]` to `QROM[7679]`. -/
def qromPiece29 : List (List Nat) :=
  [ [157550647, 157346985, 157143318, 156939644, 156735965, 156532280, 156328589, 156124893],
    [155921191, 155717483, 155513769, 155310050, 155106324, 154902594, 154698857, 154495115],
    [154291367, 154087613, 153883854, 153680089, 153476319, 153272543, 153068761, 152864973],
    [152661180, 152457382, 152253577, 152049768, 151845952, 151642131, 151438304, 151234472],
    [151030634, 150826791, 150622942, 150419088, 150215228, 150011363, 149807492, 149603615],
    [149399733, 149195846, 148991953, 148788054, 148584150, 148380241, 148176326, 147972406],
    [147768480, 147564549, 147360613, 147156671, 146952723, 146748771, 146544812, 146340849],
    [146136880, 145932906, 145728926, 145524941, 145320950, 145116955, 144912954, 144708947],
    [144504935, 144300918, 144096896, 143892868, 143688835, 143484797, 143280754, 143076705],
    [142872651, 142668592, 142464527, 142260457, 142056382, 141852302, 141648217, 141444126],
    [141240030, 141035929, 140831823, 140627712, 140423595, 140219473, 140015347, 139811215],
    [139607077, 139402935, 139198788, 138994635, 138790477, 138586315, 138382147, 138177974],
    [137973796, 137769613, 137565425, 137361231, 137157033, 136952830, 136748621, 136544408],
    [136340190, 136135966, 135931738, 135727504, 135523266, 135319023, 135114774, 134910521],
    [134706263, 134501999, 134297731, 134093458, 133889180, 133684897, 133480609, 133276316],
    [133072019, 132867716, 132663409, 132459096, 132254779, 132050457, 131846130, 131641798],
    [131437462, 131233120, 131028774, 130824423, 130620067, 130415706, 130211341, 130006970],
    [129802595, 129598215, 129393831, 129189441, 128985047, 128780648, 128576245, 128371837],
    [128167423, 127963006, 127758583, 127554156, 127349724, 127145288, 126940846, 126736401],
    [126531950, 126327495, 126123035, 125918571, 125714101, 125509628, 125305149, 125100666],
    [124896179, 124691687, 124487190, 124282689, 124078183, 123873672, 123669157, 123464638],
    [123260114, 123055585, 122851052, 122646515, 122441972, 122237426, 122032875, 121828319],
    [121623759, 121419194, 121214625, 121010052, 120805474, 120600891, 120396304, 120191713],
    [119987118, 119782517, 119577913, 119373304, 119168691, 118964073, 118759451, 118554825],
    [118350194, 118145559, 117940919, 117736276, 117531627, 117326975, 117122318, 116917657],
    [116712992, 116508322, 116303648, 116098970, 115894288, 115689601, 115484910, 115280215],
    [115075515, 114870811, 114666103, 114461391, 114256675, 114051954, 113847230, 113642501],
    [113437768, 113233030, 113028289, 112823543, 112618793, 112414040, 112209281, 112004519],
    [111799753, 111594983, 111390208, 111185430, 110980647, 110775860, 110571069, 110366274],
    [110161476, 109956673, 109751866, 109547054, 109342239, 109137420, 108932597, 108727770],
    [108522939, 108318104, 108113265, 107908421, 107703574, 107498723, 107293868, 107089010],
    [106884147, 106679280, 106474409, 106269535, 106064656, 105859774, 105654887, 105449997] ]

/-- `QROM[7680]` to `QROM[7935]`. -/
def qromPiece30 : List (List Nat) :=
  [ [105245103, 105040205, 104835303, 104630398, 104425488, 104220575, 104015658, 103810737],
    [103605812, 103400883, 103195951, 102991014, 102786074, 102581131, 102376183, 102171232],
    [101966277, 101761318, 101556355, 101351389, 101146419, 100941445, 100736468, 100531487],
    [100326502, 100121513, 99916521, 99711525, 99506525, 99301522, 99096515, 98891505],
    [98686491, 98481473, 98276451, 98071426, 97866398, 97661365, 97456330, 97251290],
    [97046247, 96841201, 96636151, 96431097, 96226040, 96020979, 95815915, 95610847],
    [95405776, 95200701, 94995622, 94790541, 94585455, 94380367, 94175274, 93970179],
    [93765079, 93559977, 93354871, 93149761, 92944648, 92739532, 92534412, 92329289],
    [92124163, 91919033, 91713899, 91508763, 91303623, 91098479, 90893333, 90688182],
    [90483029, 90277872, 90072712, 89867549, 89662382, 89457212, 89252039, 89046862],
    [88841683, 88636499, 88431313, 88226124, 88020931, 87815735, 87610535, 87405333],
    [87200127, 86994918, 86789706, 86584491, 86379272, 86174050, 85968825, 85763597],
    [85558366, 85353132, 85147894, 84942654, 84737410, 84532163, 84326913, 84121660],
    [83916404, 83711145, 83505883, 83300617, 83095349, 82890077, 82684803, 82479525],
    [82274245, 82068961, 81863674, 81658385, 81453092, 81247796, 81042498, 80837196],
    [80631892, 80426584, 80221273, 80015960, 79810644, 79605324, 79400002, 79194677],
    [78989349, 78784018, 78578684, 78373347, 78168007, 77962665, 77757319, 77551971],
    [77346620, 77141266, 76935909, 76730550, 76525187, 76319822, 76114454, 75909083],
    [75703709, 75498333, 75292954, 75087572, 74882187, 74676799, 74471409, 74266016],
    [74060620, 73855222, 73649821, 73444417, 73239010, 73033601, 72828189, 72622775],
    [72417357, 72211937, 72006515, 71801089, 71595661, 71390231, 71184798, 70979362],
    [70773924, 70568483, 70363039, 70157593, 69952144, 69746693, 69541239, 69335783],
    [69130324, 68924862, 68719398, 68513931, 68308462, 68102991, 67897517, 67692040],
    [67486561, 67281079, 67075595, 66870109, 66664620, 66459128, 66253634, 66048138],
    [65842639, 65637138, 65431634, 65226129, 65020620, 64815109, 64609596, 64404081],
    [64198563, 63993042, 63787520, 63581995, 63376468, 63170938, 62965406, 62759872],
    [62554335, 62348796, 62143255, 61937712, 61732166, 61526618, 61321068, 61115515],
    [60909960, 60704403, 60498844, 60293283, 60087719, 59882153, 59676585, 59471015],
    [59265442, 59059868, 58854291, 58648712, 58443131, 58237547, 58031962, 57826374],
    [57620785, 57415193, 57209599, 57004003, 56798405, 56592805, 56387202, 56181598],
    [55975992, 55770383, 55564773, 55359160, 55153545, 54947929, 54742310, 54536690],
    [54331067, 54125442, 53919815, 53714187, 53508556, 53302924, 53097289, 52891653] ]

/-- `QROM[7936]` to `QROM[8191]`. -/
def qromPiece31 : List (List Nat) :=
  [ [52686014, 52480374, 52274731, 52069087, 51863441, 51657793, 51452143, 51246491],
    [51040837, 50835182, 50629524, 50423865, 50218204, 50012541, 49806876, 49601209],
    [49395541, 49189870, 48984198, 48778524, 48572848, 48367171, 48161492, 47955811],
    [47750128, 47544443, 47338757, 47133069, 46927379, 46721687, 46515994, 46310299],
    [46104602, 45898904, 45693204, 45487502, 45281799, 45076094, 44870387, 44664678],
    [44458968, 44253257, 44047544, 43841829, 43636112, 43430394, 43224674, 43018953],
    [42813230, 42607506, 42401779, 42196052, 41990323, 41784592, 41578860, 41373126],
    [41167391, 40961654, 40755916, 40550176, 40344435, 40138692, 39932948, 39727202],
    [39521455, 39315706, 39109956, 38904204, 38698452, 38492697, 38286941, 38081184],
    [37875426, 37669666, 37463904, 37258142, 37052377, 36846612, 36640845, 36435077],
    [36229307, 36023537, 35817764, 35611991, 35406216, 35200440, 34994663, 34788884],
    [34583104, 34377323, 34171540, 33965756, 33759971, 33554185, 33348398, 33142609],
    [32936819, 32731028, 32525236, 32319442, 32113647, 31907851, 31702054, 31496256],
    [31290457, 31084656, 30878855, 30673052, 30467248, 30261443, 30055636, 29849829],
    [29644021, 29438211, 29232401, 29026589, 28820776, 28614963, 28409148, 28203332],
    [27997515, 27791697, 27585878, 27380058, 27174237, 26968415, 26762592, 26556768],
    [26350943, 26145118, 25939291, 25733463, 25527634, 25321804, 25115974, 24910142],
    [24704310, 24498476, 24292642, 24086807, 23880971, 23675134, 23469296, 23263458],
    [23057618, 22851778, 22645937, 22440095, 22234252, 22028408, 21822563, 21616718],
    [21410872, 21205025, 20999178, 20793329, 20587480, 20381630, 20175779, 19969928],
    [19764076, 19558223, 19352369, 19146515, 18940660, 18734804, 18528948, 18323091],
    [18117233, 17911374, 17705515, 17499656, 17293795, 17087934, 16882072, 16676210],
    [16470347, 16264484, 16058620, 15852755, 15646890, 15441024, 15235158, 15029291],
    [14823423, 14617555, 14411686, 14205817, 13999948, 13794077, 13588207, 13382336],
    [13176464, 12970592, 12764719, 12558846, 12352972, 12147098, 11941224, 11735349],
    [11529474, 11323598, 11117722, 10911845, 10705968, 10500091, 10294213, 10088335],
    [9882456, 9676578, 9470698, 9264819, 9058939, 8853059, 8647178, 8441297],
    [8235416, 8029534, 7823653, 7617770, 7411888, 7206005, 7000123, 6794239],
    [6588356, 6382472, 6176588, 5970704, 5764820, 5558935, 5353051, 5147166],
    [4941281, 4735395, 4529510, 4323624, 4117738, 3911852, 3705966, 3500080],
    [3294193, 3088307, 2882420, 2676534, 2470647, 2264760, 2058873, 1852986],
    [1647099, 1441211, 1235324, 1029437, 823550, 617662, 411775, 205887] ]

/-- `QROM[8192]`, the last word. -/
def qromPiece32 : List (List Nat) :=
  [ [0] ]

end Sys2Proof.Machine
end

