-- ==== Sys2Proof/Machine/Twiddle.lean ====
section
/-! DEFINITION. The twiddle-factor ROM's read port, its address and sign logic (43_twiddle_rom). -/

namespace Sys2Proof.Machine

/-- The piece of the ROM that holds words `[256 k, 256 k + 255]`. -/
def qromPiece : Nat → List (List Nat)
  | 0 => qromPiece00
  | 1 => qromPiece01
  | 2 => qromPiece02
  | 3 => qromPiece03
  | 4 => qromPiece04
  | 5 => qromPiece05
  | 6 => qromPiece06
  | 7 => qromPiece07
  | 8 => qromPiece08
  | 9 => qromPiece09
  | 10 => qromPiece10
  | 11 => qromPiece11
  | 12 => qromPiece12
  | 13 => qromPiece13
  | 14 => qromPiece14
  | 15 => qromPiece15
  | 16 => qromPiece16
  | 17 => qromPiece17
  | 18 => qromPiece18
  | 19 => qromPiece19
  | 20 => qromPiece20
  | 21 => qromPiece21
  | 22 => qromPiece22
  | 23 => qromPiece23
  | 24 => qromPiece24
  | 25 => qromPiece25
  | 26 => qromPiece26
  | 27 => qromPiece27
  | 28 => qromPiece28
  | 29 => qromPiece29
  | 30 => qromPiece30
  | 31 => qromPiece31
  | 32 => qromPiece32
  | _ => []

/-- `QROM[i]`, an unsigned word in `[0, 2^30]` (43_twiddle_rom R137, R210 to R212). Every index formed
is in `[0, 8192]` (20_memory R53). -/
def qrom (i : Nat) : Nat := ((qromPiece (i / 256)).getD (i % 256 / 8) []).getD (i % 8) 0

/-- `tw(q)`: cosine and sine of the angle `2 pi q / 32768`, `q` in `[0, 16384)`, in Q30, from the
quarter wave (43_twiddle_rom R138). -/
def tw (q : Nat) : Cplx :=
  if q ≤ Config.qromLast then ⟨qrom q, qrom (Config.qromLast - q)⟩
  else ⟨-(qrom (2 * Config.qromLast - q) : Int), qrom (q - Config.qromLast)⟩

/-- The ROM angle index of pass `s`, position `j`: `j << (15 - s)` (43_twiddle_rom R139). -/
def angleIndex (s j : Nat) : Nat := j <<< (15 - s)

/-- `twiddle(s, j, inv)`: forward `cos - i sin`, inverse `cos + i sin` (43_twiddle_rom R140, R141). -/
def twiddle (s j : Nat) (inv : Bool) : Cplx :=
  let c := tw (angleIndex s j)
  ⟨c.re, if inv then c.im else -c.im⟩

end Sys2Proof.Machine
end

