-- ==== Sys2Proof/Machine/Engine.lean ====
section
/-! DEFINITION. The transform engine (45_transform_engine): CONSTRUCT, DESTROY, and the common
transform routine behind FORWARD and INVERSE. -/

namespace Sys2Proof.Machine

/-! ## CONSTRUCT and DESTROY -/

/-- What a successful CONSTRUCT of length `L` leaves: length and its logarithm, the table built, a
fresh draw of the buffers, domain TIME, constructed (45_transform_engine R171). -/
def construct (L : BitVec 32) (s : State) : State :=
  { s with
    constructed := true
    length := L.extractLsb' 0 16
    log2n := BitVec.ofNat 4 (Nat.log2 L.toNat)
    domain := .time
    mem := (buildTable L.toNat s.mem).drawBuffers s.draws L.toNat
    draws := s.draws + 1 }

/-- CONSTRUCT: `ERR_STATE` if an instance exists, else `ERR_SIZE` unless the length is valid, else
the instance is created (45_transform_engine R171). -/
def execConstruct (L : BitVec 32) (s : State) : Host.Outcome State Fault Refusal :=
  if s.constructed then reject .errState s
  else if validLength L then respond 0#64 (construct L s)
  else reject .errSize s

/-- What DESTROY leaves of an instance: the UNCONSTRUCTED control values, and the instance's words of
the arrays unspecified (45_transform_engine R174; log 7). -/
def destroy (s : State) : State :=
  { clearControl s with mem := s.mem.forget s.draws s.length.toNat, draws := s.draws + 1 }

/-- DESTROY: never rejected once decoded. The control values are cleared in either case, so without an
instance, where they are clear already (10_state R34 item 4), it is the idempotent no-op of
45_transform_engine R174. -/
def execDestroy (s : State) : Host.Outcome State Fault Refusal :=
  respond 0#64 (if s.constructed then destroy s else clearControl s)

/-! ## The passes -/

/-- One butterfly of pass `s`, at group base `g` and position `j`: both operands are read, then both
results are written, in place (45_transform_engine R179, 70_reset_and_hazards R256). -/
def butterflyAt (inv : Bool) (s : Nat) (m : Memory) (gj : Nat × Nat) : Memory :=
  let half := 2 ^ (s - 1)
  let w := twiddle s gj.2 inv
  let a := m.readSample (gj.1 + gj.2)
  let b := m.readSample (gj.1 + gj.2 + half)
  let r := bfly a b w
  (m.writeSample (gj.1 + gj.2) r.1).writeSample (gj.1 + gj.2 + half) r.2

/-- The butterflies `(g, j)` of pass `s` at length `N` in the canonical order: group bases
`0, 2^s, …, N - 2^s` ascending, positions `0 … 2^(s-1) - 1` ascending (45_transform_engine R179, R180). -/
def butterflies (N s : Nat) : List (Nat × Nat) :=
  (List.range (N / 2 ^ s)).flatMap fun q => (List.range (2 ^ (s - 1))).map fun j => (q * 2 ^ s, j)

/-- `pass(s, inv)` (45_transform_engine R179). -/
def pass (inv : Bool) (N : Nat) (m : Memory) (s : Nat) : Memory :=
  (butterflies N s).foldl (butterflyAt inv s) m

/-- `for s = 1 to n: pass(s, inv)` (45_transform_engine R175, R180). -/
def passes (inv : Bool) (N n : Nat) (m : Memory) : Memory :=
  (List.range' 1 n).foldl (pass inv N) m

/-- `re[i] <- scale_n(re[i], n); im[i] <- scale_n(im[i], n)` (45_transform_engine R182). -/
def scaleAt (n : Nat) (m : Memory) (i : Nat) : Memory :=
  let v := m.readSample i
  m.writeSample i ⟨scaleN v.re n, scaleN v.im n⟩

/-- The output scaler of the inverse, over every `i` in `[0, N)` (45_transform_engine R182). -/
def scaleAll (N n : Nat) (m : Memory) : Memory := (List.range N).foldl (scaleAt n) m

/-- The arrays after a transform: load, passes, and for the inverse the scaler
(45_transform_engine R175, R178, R179, R182). -/
def transform (inv : Bool) (N n : Nat) (payload : List Sample) (m : Memory) : Memory :=
  let m := passes inv N n (permuteLoad payload m)
  if inv then scaleAll N n m else m

/-- The domain a transform leaves: FREQ after a forward, TIME after an inverse
(45_transform_engine R175). -/
def domainAfter (inv : Bool) : Domain := if inv then .time else .freq

/-- Every word a transform of length `N` touches exists: the positions below `N` and the table's
targets (20_memory R53). It holds in every state that meets the invariants of 10_state R34 (log 11). -/
def transformInBounds (N : Nat) (m : Memory) : Bool :=
  N ≤ Config.nMax && (List.range N).all fun i => hasWord (m.readTab i).toNat

/-- `transform(cnt, payload, inv)`: `ERR_STATE` without an instance, else `ERR_LEN` unless the count is
`length`; both are judged before any beat is used (45_transform_engine R175). A payload that does not
have the announced count cannot travel on the channels; as a transaction-level list of another length
it is `ERR_LEN` too (30_encoding R73; log 2). -/
def transformCommand (inv : Bool) (cnt : BitVec 32) (payload : List Sample) (s : State) :
    Host.Outcome State Fault Refusal :=
  if !s.constructed then reject .errState s
  else if cnt.toNat ≠ s.length.toNat then reject .errLen s
  else if payload.length ≠ s.length.toNat then reject .errLen s
  else if transformInBounds s.length.toNat s.mem then
    respond 0#64
      { s with
        mem := transform inv s.length.toNat s.log2n.toNat payload s.mem
        domain := domainAfter inv }
  else .fault .noSuchWord

/-- FORWARD (45_transform_engine R176). -/
def execForward (cnt : BitVec 32) (payload : List Sample) (s : State) :
    Host.Outcome State Fault Refusal :=
  transformCommand false cnt payload s

/-- INVERSE (45_transform_engine R177). -/
def execInverse (cnt : BitVec 32) (payload : List Sample) (s : State) :
    Host.Outcome State Fault Refusal :=
  transformCommand true cnt payload s

end Sys2Proof.Machine
end

