-- ==== Sys2Proof/Machine/ReadPort.lean ====
section
/-! DEFINITION. The result read port (46_result_accessor): RESULT_RE and RESULT_IM. -/

namespace Sys2Proof.Machine

/-- The shape of both reads: `ERR_STATE` without an instance, else `ERR_INDEX` unless the index, as an
unsigned 32-bit number, is below `length`, else the whole word (46_result_accessor R200 to R202). -/
def readResult (word : BufWord) (index : BitVec 32) (s : State) : Host.Outcome State Fault Refusal :=
  if !s.constructed then reject .errState s
  else if s.length.toNat ≤ index.toNat then reject .errIndex s
  else if hasWord index.toNat then respond word s
  else .fault .noSuchWord

/-- RESULT_RE (46_result_accessor R201). -/
def execResultRe (index : BitVec 32) (s : State) : Host.Outcome State Fault Refusal :=
  readResult (s.mem.readRe index.toNat) index s

/-- RESULT_IM (46_result_accessor R202). -/
def execResultIm (index : BitVec 32) (s : State) : Host.Outcome State Fault Refusal :=
  readResult (s.mem.readIm index.toNat) index s

end Sys2Proof.Machine
end

