-- ==== Sys2Proof/Machine/SquareRoot.lean ====
section
/-! DEFINITION. The integer square-root unit (41_isqrt): the restoring digit recurrence on its own
working registers, and the command ISQRT. -/

namespace Sys2Proof.Machine

/-- The working registers of the unit, alive only inside ISQRT: `rem` of 18 bits and `root` of 16
(10_state R32). -/
structure SqrtRegs where
  rem : BitVec 18
  root : BitVec 16
deriving DecidableEq, Repr

/-- `rem <- (rem << 2) | x[2i+1 : 2i]`: bring down the next two bits of `x` (41_isqrt R111). -/
def sqrtShiftIn (x : BitVec 32) (i : Nat) (r : SqrtRegs) : BitVec 18 :=
  (r.rem <<< 2) ||| (x.extractLsb' (2 * i) 2).setWidth 18

/-- `trial <- (root << 2) | 1` (41_isqrt R111). -/
def sqrtTrial (r : SqrtRegs) : BitVec 18 := (r.root.setWidth 18 <<< 2) ||| 1#18

/-- One step of the recurrence, for bit pair `i` (41_isqrt R111). -/
def sqrtStep (x : BitVec 32) (r : SqrtRegs) (i : Nat) : SqrtRegs :=
  let rem := sqrtShiftIn x i r
  let trial := sqrtTrial r
  if trial ≤ rem then ⟨rem - trial, (r.root <<< 1) ||| 1#16⟩ else ⟨rem, r.root <<< 1⟩

/-- The bit pairs in the order the unit takes them: `i = 15 downto 0` (41_isqrt R111). -/
def sqrtPairs : List Nat := (List.range 16).reverse

/-- The working registers after the 16 steps (41_isqrt R111). -/
def sqrtRun (x : BitVec 32) : SqrtRegs := sqrtPairs.foldl (sqrtStep x) ⟨0#18, 0#16⟩

/-- `isqrt(x)` (41_isqrt R111). -/
def isqrt (x : BitVec 32) : BitVec 16 := (sqrtRun x).root

/-- ISQRT: responds the root; reads and writes no state (41_isqrt R112). -/
def execIsqrt (x : BitVec 32) (s : State) : Host.Outcome State Fault Refusal :=
  respond (zext64Root (isqrt x)) s

end Sys2Proof.Machine
end

