-- ==== Sys2Proof/Machine/Validator.lean ====
section
/-! DEFINITION. The size validator's command ISPOW2 (40_size_validator). -/

namespace Sys2Proof.Machine

/-- ISPOW2: responds 1 or 0; reads and writes no state (40_size_validator R101). -/
def execIspow2 (x : BitVec 16) (s : State) : Host.Outcome State Fault Refusal :=
  respond (zext64Bool (isPowerOfTwo x)) s

end Sys2Proof.Machine
end

