-- ==== Sys2Proof/Machine/Dispatch.lean ====
section
/-! DEFINITION. One arm per command, each a call of that command's meaning. -/

namespace Sys2Proof.Machine

def exec (i : Instr) (s : State) : Host.Outcome State Fault Refusal :=
  match i with
  | .construct length => Sys2Proof.Machine.execConstruct length s
  | .destroy => Sys2Proof.Machine.execDestroy s
  | .forward cnt payload => Sys2Proof.Machine.execForward cnt payload s
  | .inverse cnt payload => Sys2Proof.Machine.execInverse cnt payload s
  | .resultRe index => Sys2Proof.Machine.execResultRe index s
  | .resultIm index => Sys2Proof.Machine.execResultIm index s
  | .ispow2 x => Sys2Proof.Machine.execIspow2 x s
  | .isqrt x => Sys2Proof.Machine.execIsqrt x s

end Sys2Proof.Machine
end

