-- ==== Sys2Proof/Machine/Port.lean ====
section
/-! DEFINITION. How commands reach the unit: the host presents each at the end of one sequence
(20_memory R58, R59), and the unit takes the oldest, whole, decodes it and runs it. -/

namespace Sys2Proof.Machine

/-- The host presents one more input: it waits its turn (20_memory R59, 70_reset_and_hazards R255). -/
def State.offer (s : State) (x : HostInput) : State := { s with inputs := s.inputs ++ [x] }

/-- The oldest input has been taken off the sequence. -/
def State.accept (s : State) : State := { s with inputs := s.inputs.tail }

/-- Nothing presented: the unit is idle and stays as it is (60_exceptions R245; log 3). -/
def idle (s : State) : Host.Outcome State Fault Refusal := .next s

/-- A command taken off the sequence: decoded and run; a reserved word is rejected with `ERR_OP`
(30_encoding R81). -/
def runCommand (r : Request) (s : State) : Host.Outcome State Fault Refusal :=
  match decode r with
  | .command i => exec i s
  | .reserved _ => reject .errOp s

/-- An input taken off the sequence: a command, or a reset request (70_reset_and_hazards R252). -/
def runInput (x : HostInput) (s : State) : Host.Outcome State Fault Refusal :=
  match x with
  | .command r => runCommand r s
  | .reset => .next (resetUnit s)

end Sys2Proof.Machine
end

