-- ==== Sys2Proof/Machine/Step.lean ====
section
/-! DEFINITION. One step of the unit: one whole command, taken from the sequence the host presents
(00_scope R6, 20_memory R58), or one reset request (70_reset_and_hazards R252). -/

namespace Sys2Proof.Machine

/-- One step: the oldest input, if there is one. -/
def step (s : State) : Host.Outcome State Fault Refusal :=
  match s.inputs with
  | [] => idle s
  | x :: _ => runInput x s.accept

/-- The host presents, as the very next input, the command whose bits are `w` (log 14). -/
def State.withFetchWord (s : State) (nbits w : Nat) : State :=
  { s with inputs := .command (requestOfBits nbits w) :: s.inputs }

end Sys2Proof.Machine
end

