-- ==== Sys2Proof/Machine/Flags.lean ====
section
/-! DEFINITION. The unit has no flags (10_state R28): the outcome of a command is carried by its own
response word, whose 68 bits are computed here (30_encoding R74). -/

namespace Sys2Proof.Machine

/-- The 4-bit code of a status (30_encoding R74, 60_exceptions R220). -/
def statusCode : Status → BitVec 4
  | .ok => 0#4
  | .errSize => 1#4
  | .errIndex => 2#4
  | .errLen => 3#4
  | .errState => 4#4
  | .errOp => 5#4

/-- The response word `RW = {status[67:64], data[63:0]}` (30_encoding R74). -/
def Response.word (r : Response) : BitVec 68 := statusCode r.status ++ r.data

/-- The number a result read returns, `sext_64(data)` as it stands (30_encoding R77). -/
def Response.value (r : Response) : Int := r.data.toInt

end Sys2Proof.Machine
end

