-- ==== Sys2Proof/Machine/Assembler.lean ====
section
/-! DEFINITION. The assembler of 30_encoding R82 on abstract lines (the numbers and lists a line
holds, not its characters; log 17), and the pseudo-commands of R83. None of this is hardware. -/

namespace Sys2Proof.Machine

/-- One line of a command sequence (30_encoding R82). -/
inductive AsmLine where
  | construct (length : Nat)
  | destroy
  | forward (re im : List Int)
  | inverse (re im : List Int)
  | resultRe (index : Nat)
  | resultIm (index : Nat)
  | ispow2 (x : Nat)
  | isqrt (x : Nat)
  /-- `.word`, a raw command word. -/
  | word (w : Nat)
deriving DecidableEq, Repr

/-- The integer is an `s32` value, so it can be put in a beat (70_reset_and_hazards R261). -/
def fitsS32 (v : Int) : Bool := -2 ^ 31 ≤ v && v < 2 ^ 31

/-- Beat `i` from the two lists: `{im[i] as s32, re[i] as s32}` (30_encoding R82). -/
def asmSamples (re im : List Int) : List Sample :=
  (re.zip im).map fun x => ⟨BitVec.ofInt 32 x.1, BitVec.ofInt 32 x.2⟩

/-- The two lists have equally many elements, as many as an `arg` can count, each an `s32` value
(30_encoding R82). -/
def asmPayloadOk (re im : List Int) : Bool :=
  re.length == im.length && re.length < 2 ^ 32 && re.all fitsS32 && im.all fitsS32

/-- The command a line writes, where its operands fit their fields (30_encoding R76, R82); `.word`
lines are no command and give none. -/
def AsmLine.instr : AsmLine → Option Instr
  | .construct length => if length < 2 ^ 32 then some (.construct (BitVec.ofNat 32 length)) else none
  | .destroy => some .destroy
  | .forward re im =>
    if asmPayloadOk re im then some (.forward (BitVec.ofNat 32 re.length) (asmSamples re im)) else none
  | .inverse re im =>
    if asmPayloadOk re im then some (.inverse (BitVec.ofNat 32 re.length) (asmSamples re im)) else none
  | .resultRe index => if index < 2 ^ 32 then some (.resultRe (BitVec.ofNat 32 index)) else none
  | .resultIm index => if index < 2 ^ 32 then some (.resultIm (BitVec.ofNat 32 index)) else none
  | .ispow2 x => if x < 2 ^ 16 then some (.ispow2 (BitVec.ofNat 16 x)) else none
  | .isqrt x => if x < 2 ^ 32 then some (.isqrt (BitVec.ofNat 32 x)) else none
  | .word _ => none

/-- The words a line puts on the channels: `.word` puts its 40 bits with the zero beats its count
announces. -/
def AsmLine.request : AsmLine → Option Request
  | .word w => if w < 2 ^ 40 then some (requestOfBits 40 w) else none
  | line => line.instr.map encode

/-- `READBACK` for constructed length `n`: `RESULT_RE 0`, `RESULT_IM 0`, … (30_encoding R83). -/
def readback (n : Nat) : List AsmLine :=
  (List.range n).flatMap fun i => [.resultRe i, .resultIm i]

/-- The last command of `ROUNDTRIP`, from the read-back lists; legal only when every value fits `s32`
(30_encoding R83). -/
def roundtripInverse (re im : List Int) : Option AsmLine :=
  if asmPayloadOk re im then some (.inverse re im) else none

/-- The commands of `ROUNDTRIP re=[…] im=[…]` up to the read-back (30_encoding R83). -/
def roundtripForward (re im : List Int) : List AsmLine := .forward re im :: readback re.length

end Sys2Proof.Machine
end

