-- ==== Sys2Proof/Machine/Reference.lean ====
section
/-! DEFINITION. The clear forms that statements hold the machine against: the spec's contracts
written without the machine's working order. The machine calls none of them. -/

namespace Sys2Proof.Machine

/-! ## Size validator and square root -/

/-- `popcount(x)` of a 16-bit word (40_size_validator R100). -/
def popcount16 (x : BitVec 16) : Nat := ((List.range 16).filter fun b => x.getLsbD b).length

/-- `round(sqrt(x))` in integers: `floor((floor_sqrt(4x) + 1) / 2)` (41_isqrt R110). -/
def nearestRoot (x : Nat) : Nat := (Nat.sqrt (4 * x) + 1) / 2

/-- The working registers after the first `n` of the 16 steps of 41_isqrt R111. -/
def sqrtAfter (x : BitVec 32) (n : Nat) : SqrtRegs :=
  (sqrtPairs.take n).foldl (sqrtStep x) ⟨0#18, 0#16⟩

/-! ## The table, written with a fresh list per doubling (42_permutation_table R122) -/

/-- `new[2k] = old[k]`, `new[2k+1] = old[k] + M`, repeated from the length-1 table `{0}`: the table
after `n` doublings (42_permutation_table R121). -/
def freshTable : Nat → List Nat
  | 0 => [0]
  | n + 1 => (freshTable n).flatMap fun v => [v, v + 2 ^ n]

/-! ## Transforms -/

/-- Sample `i` of a payload as integers (30_encoding R72). -/
def inputSample (payload : List Sample) (i : Nat) : Cplx :=
  let x := payload.getD i ⟨0#32, 0#32⟩
  ⟨x.re.toInt, x.im.toInt⟩

/-- Radix-2 decimation in time as a recursion on exact integers: the transform of the even samples
and of the odd samples, combined by one butterfly each (44_complex_arith R157, 45_transform_engine R176). -/
def decimationInTime (inv : Bool) : Nat → (Nat → Cplx) → Nat → Cplx
  | 0, x, _ => x 0
  | n + 1, x, k =>
    let j := k % 2 ^ n
    let even := decimationInTime inv n (fun m => x (2 * m)) j
    let odd := decimationInTime inv n (fun m => x (2 * m + 1)) j
    let r := bfly even odd (twiddle (n + 1) j inv)
    if k < 2 ^ n then r.1 else r.2

/-- `c` times `(-i)^n`. -/
def quarterTurn (n : Nat) (c : Cplx) : Cplx :=
  match n % 4 with
  | 0 => c
  | 1 => ⟨c.im, -c.re⟩
  | 2 => ⟨-c.re, -c.im⟩
  | _ => ⟨-c.im, c.re⟩

/-- The exact discrete Fourier transform for `N` in `{2, 4}`, where `exp(-2 pi i m k / N)` is a power of
`-i`: `X[k] = sum over m in [0, N) of x[m] (-i)^(m k 4/N)` (45_transform_engine R176). -/
def exactDft (N : Nat) (x : Nat → Cplx) (k : Nat) : Cplx :=
  (List.range N).foldl (fun acc m => cadd acc (quarterTurn (m * k * (4 / N)) (x m))) ⟨0, 0⟩

/-- The host reads words `[0, N)` of both buffers and keeps the low 32 bits of each as the samples of a
payload (95_test_vectors P1, 30_encoding R83). -/
def readBackPayload (N : Nat) (m : Memory) : List Sample :=
  (List.range N).map fun i => ⟨(m.readRe i).setWidth 32, (m.readIm i).setWidth 32⟩

/-- Every word of the result fits `s32`, so it can be sent back (70_reset_and_hazards R261). -/
def resultFits (N : Nat) (m : Memory) : Bool :=
  (List.range N).all fun i => fitsS32 (m.readRe i).toInt && fitsS32 (m.readIm i).toInt

/-- The result holds the samples of a payload, sign-extended, in order. -/
def holdsPayload (N : Nat) (m : Memory) (payload : List Sample) : Prop :=
  ∀ i < N, m.readSample i = inputSample payload i

/-! ## Checks and runs -/

/-- `L` is one of the fifteen legal lengths (60_exceptions R222). -/
def legalLength (L : Nat) : Bool := (List.range' 1 15).any fun k => L == 2 ^ k

/-- The code of the first failing check of a command, in the order lifecycle, operand; `ok` where none
fails (60_exceptions R226). -/
def firstFailure (s : State) : Instr → Status
  | .construct L =>
    if s.constructed then .errState else if legalLength L.toNat then .ok else .errSize
  | .destroy => .ok
  | .forward cnt _ =>
    if !s.constructed then .errState else if cnt.toNat = s.length.toNat then .ok else .errLen
  | .inverse cnt _ =>
    if !s.constructed then .errState else if cnt.toNat = s.length.toNat then .ok else .errLen
  | .resultRe index =>
    if !s.constructed then .errState else if index.toNat < s.length.toNat then .ok else .errIndex
  | .resultIm index =>
    if !s.constructed then .errState else if index.toNat < s.length.toNat then .ok else .errIndex
  | .ispow2 _ => .ok
  | .isqrt _ => .ok

/-- A sequence of commands run one after another, with the responses in order; none where one stops
(20_memory R58). -/
def runCommands : List Instr → State → Option (State × List Response)
  | [], s => some (s, [])
  | i :: rest, s =>
    match exec i s with
    | .next t =>
      match t.response, runCommands rest t with
      | some r, some (u, rs) => some (u, r :: rs)
      | _, _ => none
    | .fault _ => none
    | .refused _ => none

end Sys2Proof.Machine
end

