-- ==== Sys2Proof/Safety.lean ====
section
/-! DEFINITION. What a safe run is: the invariants the spec states between commands (10_state R34),
the framing the host owes (30_encoding R73), and the states a unit and its host can reach. -/

namespace Sys2Proof.Machine

/-- The fifteen legal lengths with their logarithm (10_state R22, R23, R34 item 1). -/
def State.lengthLegal (s : State) : Prop :=
  1 ≤ s.log2n.toNat ∧ s.length.toNat = 2 ^ s.log2n.toNat

/-- The switching table holds the bit reversal of the instance's length (10_state R34 item 2). -/
def State.tableReversed (s : State) : Prop :=
  ∀ i < s.length.toNat, (s.mem.readTab i).toNat = bitrev i s.log2n.toNat

/-- Without an instance the control state is cleared (10_state R34 item 4). -/
def State.controlClear (s : State) : Prop :=
  s.length = 0#16 ∧ s.log2n = 0#4 ∧ s.domain = .time

/-- The invariants between commands (10_state R34 items 1, 2 and 4, and the arrays' depth of R20; item 3
holds of every state, since a word always holds a value, and item 5 speaks of a step). -/
structure State.Inv (s : State) : Prop where
  mem : s.mem.wf
  legal : s.constructed = true → s.lengthLegal
  table : s.constructed = true → s.tableReversed
  clear : s.constructed = false → s.controlClear

/-- Every command the host has presented is framed as 30_encoding R73 says. -/
def State.framedInputs (s : State) : Prop :=
  ∀ r, HostInput.command r ∈ s.inputs → r.framed = true

/-- The step of a state does not stop: there is a next state. -/
def State.goesOn (s : State) : Prop := ∃ t, step s = .next t

/-- The states a unit can be in: after power-up, after the host has presented an input, after a
step. -/
inductive Reachable : State → Prop where
  | reset : Reachable State.reset
  | offer {s : State} (x : HostInput) : Reachable s → Reachable (s.offer x)
  | step {s t : State} : Reachable s → Machine.step s = .next t → Reachable t

/-- The next state of an outcome, if there is one. -/
def nextState? : Host.Outcome State Fault Refusal → Option State
  | .next s => some s
  | .fault _ => none
  | .refused _ => none

end Sys2Proof.Machine
end

