-- ==== Sys2Proof/Certificates/Slice0/Obligations.lean ====
section
/-! DEFINITION. What is to be proved of the model: the spec's numbered rules as statements. A
docstring names the rule a statement formalises, and says so where a clause is the model's choice. -/

open Sys2Proof
open Sys2Proof.Machine

/-! ## Encoding -/

/-- The words of the table of 30_encoding R84, in both directions, and its two response words. -/
def Obligations.SpecExampleWordsDecode : Prop :=
  (decode ⟨0x0100000008#40, []⟩ = .command (.construct 8#32) ∧
    encode (.construct 8#32) = ⟨0x0100000008#40, []⟩) ∧
  (decode ⟨0x0200000000#40, []⟩ = .command .destroy ∧ encode .destroy = ⟨0x0200000000#40, []⟩) ∧
  (decode ⟨0x0300000002#40, [0x0000000000000001#64, 0x00000002FFFFFFFF#64]⟩ =
      .command (.forward 2#32 [⟨BitVec.ofInt 32 1, 0#32⟩, ⟨BitVec.ofInt 32 (-1), 2#32⟩]) ∧
    encode (.forward 2#32 [⟨BitVec.ofInt 32 1, 0#32⟩, ⟨BitVec.ofInt 32 (-1), 2#32⟩]) =
      ⟨0x0300000002#40, [0x0000000000000001#64, 0x00000002FFFFFFFF#64]⟩) ∧
  (decode ⟨0x0400000002#40, [0x0000000000000008#64, 0x0000000000000000#64]⟩ =
      .command (.inverse 2#32 [⟨8#32, 0#32⟩, ⟨0#32, 0#32⟩]) ∧
    encode (.inverse 2#32 [⟨8#32, 0#32⟩, ⟨0#32, 0#32⟩]) =
      ⟨0x0400000002#40, [0x0000000000000008#64, 0x0000000000000000#64]⟩) ∧
  (decode ⟨0x0500000003#40, []⟩ = .command (.resultRe 3#32) ∧
    encode (.resultRe 3#32) = ⟨0x0500000003#40, []⟩) ∧
  (decode ⟨0x0600000000#40, []⟩ = .command (.resultIm 0#32) ∧
    encode (.resultIm 0#32) = ⟨0x0600000000#40, []⟩) ∧
  (decode ⟨0x0700008000#40, []⟩ = .command (.ispow2 32768#16) ∧
    encode (.ispow2 32768#16) = ⟨0x0700008000#40, []⟩) ∧
  (decode ⟨0x08FFFFFFFF#40, []⟩ = .command (.isqrt 0xFFFFFFFF#32) ∧
    encode (.isqrt 0xFFFFFFFF#32) = ⟨0x08FFFFFFFF#40, []⟩) ∧
  Response.word ⟨.ok, BitVec.ofInt 64 (-4)⟩ = 0x0FFFFFFFFFFFFFFFC#68 ∧
  Response.word ⟨.errIndex, 0#64⟩ = 0x20000000000000000#68

/-- Decoding the encoding of any well-formed command gives the command back, and the encoding is
framed (30_encoding R81, R73). -/
def Obligations.DecodeInvertsEncode : Prop :=
  ∀ i : Instr, i.wellFormed = true → (encode i).framed = true ∧ decode (encode i) = .command i

/-- A framed request that decodes is the encoding of what it decodes to: each command has one encoding
(30_encoding R73, R80, R81). -/
def Obligations.EncodeInvertsDecode : Prop :=
  ∀ (r : Request) (i : Instr), r.framed = true → decode r = .command i →
    i.wellFormed = true ∧ encode i = r

/-- Every 40-bit word matches exactly one row of the opcode table, whose mnemonic is that of the command
it decodes to, or it is reserved and matches none (30_encoding R80). -/
def Obligations.OneOpcodeRowPerWord : Prop :=
  ∀ (cw : CommandWord) (beats : List Beat),
    (∀ i, decode ⟨cw, beats⟩ = .command i →
      (opcodeTable.filter fun row => row.covers cw).map OpcodeRow.mnemonic = [i.mnemonic]) ∧
    (∀ why, decode ⟨cw, beats⟩ = .reserved why →
      (opcodeTable.filter fun row => row.covers cw) = [])

/-- 60_exceptions R227: a word draws `ERR_OP` iff it matches no row of the opcode table, that is, in
the four cases the rule lists; it is followed by no payload and changes nothing. -/
def Obligations.ReservedWordsDrawErrOp : Prop :=
  ∀ (s : State) (r : Request) (rest : List HostInput), s.inputs = .command r :: rest →
    let op := r.cw.op.toNat
    let reserved := op = 0x00 ∨ 0x09 ≤ op ∨ (op = 0x02 ∧ r.cw.arg ≠ 0#32) ∨
      (op = 0x07 ∧ r.cw.arg.extractLsb' 16 16 ≠ 0#16)
    (reserved ↔ ∀ row ∈ opcodeTable, row.covers r.cw = false) ∧
    (reserved → payloadBeats r.cw = 0 ∧
      step s = .next { s with inputs := rest, response := some ⟨.errOp, 0#64⟩ }) ∧
    (¬ reserved → ∀ t x, step s = .next t → t.response = some x → x.status ≠ .errOp)

/-- A response word carries its status code in bits 67:64 and its data in bits 63:0; codes 6 to 15 are
never produced, and two responses with one word are the same response (30_encoding R74). -/
def Obligations.ResponseWordLayout : Prop :=
  ∀ r : Response, r.word.extractLsb' 64 4 = statusCode r.status ∧ r.word.extractLsb' 0 64 = r.data ∧
    (r.word.extractLsb' 64 4).toNat ≤ 5 ∧ ∀ q : Response, q.word = r.word → q = r

/-! ## A step -/

/-- When the oldest presented command decodes to `i`, a step is `exec i` in the state without that
command; with nothing presented a step changes nothing (the model's choice, log 3); and
`withFetchWord` presents exactly the word's command (log 14). -/
def Obligations.StepRunsDecodedCommand : Prop :=
  (∀ (s : State) (r : Request) (rest : List HostInput) (i : Instr),
    s.inputs = .command r :: rest → decode r = .command i →
    step s = exec i { s with inputs := rest }) ∧
  (∀ s : State, s.inputs = [] → step s = .next s) ∧
  ∀ (s : State) (nbits w : Nat) (i : Instr), decodeTableWord nbits w = some i →
    step (s.withFetchWord nbits w) = exec i s

/-- What the host has presented behind the oldest input does not touch the step of that input. For a
command this is 20_memory R58 item 1; that inputs wait in State is the model's choice (log 1), and so
is that they still wait after a reset request (log 5). -/
def Obligations.LaterInputsDoNotMatter : Prop :=
  ∀ (s t : State) (x : HostInput), s.inputs ≠ [] → step s = .next t →
    step (s.offer x) = .next (t.offer x)

/-! ## Size validator -/

/-- 40_size_validator R100: true iff `x` is `2^k` for some `k` in `[0, 15]`, which is the same as one
bit being set. -/
def Obligations.PowerOfTwoContract : Prop :=
  ∀ x : BitVec 16, (isPowerOfTwo x = true ↔ ∃ k ≤ 15, x.toNat = 2 ^ k) ∧
    (isPowerOfTwo x = true ↔ popcount16 x = 1)

/-- 40_size_validator R101: ISPOW2's encoding, answer, untouched state and only rejection, its corner
cases and worked examples. -/
def Obligations.Ispow2AnswersValidator : Prop :=
  (∀ (x : BitVec 16) (s : State),
    decode ⟨CommandWord.make 0x07#8 (0#16 ++ x), []⟩ = .command (.ispow2 x) ∧
    exec (.ispow2 x) s =
      .next { s with response := some ⟨.ok, if isPowerOfTwo x then 1#64 else 0#64⟩ }) ∧
  (∀ (arg : BitVec 32) (s : State),
    (decode ⟨CommandWord.make 0x07#8 arg, []⟩ = .reserved .argBits ↔
      arg.extractLsb' 16 16 ≠ 0#16) ∧
    (arg.extractLsb' 16 16 ≠ 0#16 → runCommand ⟨CommandWord.make 0x07#8 arg, []⟩ s =
      .next { s with response := some ⟨.errOp, 0#64⟩ })) ∧
  isPowerOfTwo 0#16 = false ∧ isPowerOfTwo 1#16 = true ∧ isPowerOfTwo 0x8000#16 = true ∧
  isPowerOfTwo 0xFFFF#16 = false ∧
  decode ⟨0x0700010000#40, []⟩ = .reserved .argBits ∧
  (decode ⟨0x070000000C#40, []⟩ = .command (.ispow2 12#16) ∧ isPowerOfTwo 12#16 = false) ∧
  (decode ⟨0x0700000010#40, []⟩ = .command (.ispow2 16#16) ∧ isPowerOfTwo 16#16 = true)

/-- 40_size_validator R102: the gate inside CONSTRUCT is the conjunction the rule prints, it holds for
exactly the fifteen lengths, and CONSTRUCT 1 is rejected although 1 is a power of two. -/
def Obligations.ValidLengthsAreFifteen : Prop :=
  (∀ L : BitVec 32,
    (validLength L = true ↔
      L.toNat ≤ 0xFFFF ∧ isPowerOfTwo (L.extractLsb' 0 16) = true ∧ 2 ≤ L.toNat) ∧
    (validLength L = true ↔ ∃ k, 1 ≤ k ∧ k ≤ 15 ∧ L.toNat = 2 ^ k)) ∧
  isPowerOfTwo 1#16 = true ∧
  (∀ (L : BitVec 32) (s : State), s.constructed = false → validLength L = false →
    exec (.construct L) s = .next { s with response := some ⟨.errSize, 0#64⟩ }) ∧
  validLength 1#32 = false

/-! ## Integer square root -/

/-- 41_isqrt R111: after `n` steps `root` is the floor root of the leading `2n` bits and `rem` the
remainder, nothing is lost bringing bits down into 18 bits, and the result is the floor root. -/
def Obligations.SqrtRecurrenceInvariant : Prop :=
  ∀ x : BitVec 32,
    (∀ n ≤ 16,
      let X := x.toNat / 2 ^ (32 - 2 * n)
      let r := sqrtAfter x n
      r.root.toNat = Nat.sqrt X ∧ r.rem.toNat = X - r.root.toNat * r.root.toNat ∧
      r.rem.toNat ≤ 2 * r.root.toNat ∧
      (n < 16 →
        (sqrtShiftIn x (15 - n) r).toNat =
            4 * r.rem.toNat + x.toNat / 2 ^ (2 * (15 - n)) % 4 ∧
        (sqrtShiftIn x (15 - n) r).toNat ≤ 262139)) ∧
    (isqrt x).toNat = Nat.sqrt x.toNat ∧
    (sqrtRun x).rem.toNat = x.toNat - (isqrt x).toNat * (isqrt x).toNat

/-- 41_isqrt R110 and R113: the result is within 1 of the rounded real root, never above it, and is one
below it exactly when `x ≥ r^2 + r + 1`, which is when the final `rem` exceeds `root`; the rounded
root is the integer formula of R110. -/
def Obligations.SqrtMeetsRoundedContract : Prop :=
  ∀ x : BitVec 32,
    let r : Int := (isqrt x).toNat
    let rounded : Int := ⌊Real.sqrt (x.toNat : ℝ) + 1 / 2⌋
    rounded = (nearestRoot x.toNat : Int) ∧ |r - rounded| ≤ 1 ∧
    0 ≤ rounded - r ∧ rounded - r ≤ 1 ∧
    (rounded = r + 1 ↔ r * r + r + 1 ≤ (x.toNat : Int)) ∧
    (rounded = r + 1 ↔ (sqrtRun x).root.toNat < (sqrtRun x).rem.toNat)

/-- 41_isqrt R114: at the top of the range the rounded root is 65536, which is no 16-bit value, 65535 is
the only 16-bit value within 1 of it, and the unit returns it. -/
def Obligations.SqrtTopOfRange : Prop :=
  ∀ x : BitVec 32, 0xFFFF0001 ≤ x.toNat →
    ⌊Real.sqrt (x.toNat : ℝ) + 1 / 2⌋ = (65536 : Int) ∧ (isqrt x).toNat = 65535 ∧
    ∀ v : BitVec 16, |(v.toNat : Int) - 65536| ≤ 1 → v.toNat = 65535

/-- 41_isqrt R112: ISQRT decodes from every word with `op = 0x08`, answers the floor root, changes
nothing else and is never rejected; its corner cases. -/
def Obligations.IsqrtAnswersFloorRoot : Prop :=
  (∀ (x : BitVec 32) (s : State),
    decode ⟨CommandWord.make 0x08#8 x, []⟩ = .command (.isqrt x) ∧
    exec (.isqrt x) s =
      .next { s with response := some ⟨.ok, BitVec.ofNat 64 (Nat.sqrt x.toNat)⟩ }) ∧
  (∀ r : Nat, r < 2 ^ 16 →
    (isqrt (BitVec.ofNat 32 (r * r))).toNat = r ∧
    (0 < r → (isqrt (BitVec.ofNat 32 (r * r - 1))).toNat = r - 1)) ∧
  (isqrt 0#32).toNat = 0 ∧ (isqrt 1#32).toNat = 1 ∧ (isqrt 2#32).toNat = 1 ∧
  (isqrt 3#32).toNat = 1 ∧ (isqrt 0xFFFFFFFF#32).toNat = 65535 ∧
  (0xFFFE0001#32).toNat = 65535 * 65535 ∧ (isqrt 0xFFFE0001#32).toNat = 65535 ∧
  decode ⟨0x08000F4240#40, []⟩ = .command (.isqrt 1000000#32) ∧
  (isqrt 1000000#32).toNat = 1000 ∧ Response.word ⟨.ok, 1000#64⟩ = 0x000000000000003E8#68 ∧
  (isqrt 24#32).toNat = 4 ∧ nearestRoot 24 = 5

/-! ## Switching table -/

/-- 42_permutation_table R123: a doubling from `M = 2^n` to `2M` turns the table of the `n`-bit reversal
into that of the `(n+1)`-bit reversal, and the length-1 table is the 0-bit reversal. -/
def Obligations.DoublingKeepsBitReversal : Prop :=
  bitrev 0 0 = 0 ∧
  ∀ (n : Nat) (m : Memory), n < 15 → m.wf →
    (∀ i < 2 ^ n, (m.readTab i).toNat = bitrev i n) →
    ∀ i < 2 ^ (n + 1), ((tableDouble m (2 ^ n)).readTab i).toNat = bitrev i (n + 1)

/-- 42_permutation_table R120: the built table is the bit-reversal permutation of `[0, length)`, whatever
the arrays held, and writes no other word; no command but CONSTRUCT (which builds it) and DESTROY
(which ends the instance) changes a table word. -/
def Obligations.BuilderMakesBitReversal : Prop :=
  (∀ (i : Instr) (s t : State), (¬ ∃ L, i = .construct L) → i ≠ .destroy → exec i s = .next t →
    t.mem.tab = s.mem.tab) ∧
  ∀ (n : Nat) (m : Memory), 1 ≤ n → n ≤ 15 → m.wf →
    (∀ i < 2 ^ n, ((buildTable (2 ^ n) m).readTab i).toNat = bitrev i n) ∧
    ((List.range (2 ^ n)).map fun i => ((buildTable (2 ^ n) m).readTab i).toNat).Perm
      (List.range (2 ^ n)) ∧
    (∀ i, 2 ^ n ≤ i → (buildTable (2 ^ n) m).readTab i = m.readTab i) ∧
    (∀ i, (buildTable (2 ^ n) m).readRe i = m.readRe i ∧
      (buildTable (2 ^ n) m).readIm i = m.readIm i)

/-- 42_permutation_table R122: with `k` descending the in-place doublings give the same table as fresh
lists do; with `k` ascending the doubling of `{0, 1}` gives `{0, 2, 2, 4}`, a wrong table. -/
def Obligations.InPlaceBuildMatchesFreshLists : Prop :=
  (∀ (n : Nat) (m : Memory), n ≤ 15 → m.wf →
    (List.range (2 ^ n)).map (fun i => ((buildTable (2 ^ n) m).readTab i).toNat) = freshTable n) ∧
  ∀ m : Memory, m.wf → m.readTab 0 = 0#16 → m.readTab 1 = 1#16 →
    (List.range 4).map (fun i => (((List.range 2).foldl (tableEntry 2) m).readTab i).toNat) =
      [0, 2, 2, 4]

/-- 42_permutation_table R124: reversing twice is the identity, so `tab[tab[i]] = i`; gathering and
scattering load the same buffer; the fixed points are the palindromes, 0 and `N - 1` among them. -/
def Obligations.BitReversalIsInvolution : Prop :=
  (∀ n i : Nat, i < 2 ^ n →
    bitrev i n < 2 ^ n ∧ bitrev (bitrev i n) n = i ∧
    (bitrev i n = i ↔ ∀ b < n, i.testBit b = i.testBit (n - 1 - b)) ∧
    bitrev 0 n = 0 ∧ bitrev (2 ^ n - 1) n = 2 ^ n - 1) ∧
  (∀ s : State, s.Inv → s.constructed = true → ∀ i < s.length.toNat,
    (s.mem.readTab (s.mem.readTab i).toNat).toNat = i) ∧
  ∀ (n : Nat) (input buffer : Nat → Cplx),
    (∀ j < 2 ^ n, buffer (bitrev j n) = input j) ↔ ∀ i < 2 ^ n, buffer i = input (bitrev i n)

/-- 42_permutation_table R125: after the load position `i` holds sample `tab[i]` of the payload, every
one of the `length` words has been overwritten, and nothing else has. -/
def Obligations.PermutingLoadGathersInput : Prop :=
  ∀ (s : State) (payload : List Sample), s.Inv → s.constructed = true →
    payload.length = s.length.toNat →
    let m := permuteLoad payload s.mem
    (∀ i < s.length.toNat, m.readSample i = inputSample payload (s.mem.readTab i).toNat) ∧
    (∀ i, s.length.toNat ≤ i → m.readRe i = s.mem.readRe i ∧ m.readIm i = s.mem.readIm i) ∧
    ∀ i, m.readTab i = s.mem.readTab i

/-- 42_permutation_table R126: the source's four tables, the derived table of length 32, and the doubling
steps for length 8. -/
def Obligations.SourceTablesAreBuilt : Prop :=
  (∀ m : Memory, m.wf →
    let table := fun N : Nat => (List.range N).map fun i => ((buildTable N m).readTab i).toNat
    table 2 = [0, 1] ∧ table 4 = [0, 2, 1, 3] ∧ table 8 = [0, 4, 2, 6, 1, 5, 3, 7] ∧
    table 16 = [0, 8, 4, 12, 2, 10, 6, 14, 1, 9, 5, 13, 3, 11, 7, 15] ∧
    table 32 = [0, 16, 8, 24, 4, 20, 12, 28, 2, 18, 10, 26, 6, 22, 14, 30,
      1, 17, 9, 25, 5, 21, 13, 29, 3, 19, 11, 27, 7, 23, 15, 31]) ∧
  freshTable 0 = [0] ∧ freshTable 1 = [0, 1] ∧ freshTable 2 = [0, 2, 1, 3] ∧
  freshTable 3 = [0, 4, 2, 6, 1, 5, 3, 7]

/-! ## Twiddle factors -/

/-- 43_twiddle_rom R144: the five properties of the ROM a model may rely on. -/
def Obligations.RomTableProperties : Prop :=
  (qrom 0 = 2 ^ 30 ∧ qrom 8192 = 0 ∧ ∀ i, 0 < i → i < 8192 → 0 < qrom i ∧ qrom i < 2 ^ 30) ∧
  (∀ i < 8192, qrom (i + 1) < qrom i) ∧
  10000 * 1518500250 < 14143 * 2 ^ 30 ∧ 100 * 1470459911 < 137 * 2 ^ 30 ∧
  100 * 2613329096 < 244 * 2 ^ 30 ∧
  ((∀ i ≤ 8192, qrom i + qrom (8192 - i) ≤ 1518500250) ∧ 2 * qrom 4096 = 1518500250 ∧
    ∀ s j inv, 1 ≤ s → s ≤ 15 → j < 2 ^ (s - 1) →
      |(twiddle s j inv).re| + |(twiddle s j inv).im| ≤ 1518500250 ∧
      |(twiddle s j inv).re| ≤ 2 ^ 30 ∧ |(twiddle s j inv).im| ≤ 2 ^ 30) ∧
  (∀ i ≤ 8192,
    |(qrom i : Int) * qrom i + (qrom (8192 - i) : Int) * qrom (8192 - i) - 2 ^ 60| ≤ 1470459911) ∧
  ∀ i ≤ 4096,
    |(qrom (2 * i) : Int) * 2 ^ 30 - (2 * ((qrom i : Int) * qrom i) - 2 ^ 60)| ≤ 2613329096

/-- 43_twiddle_rom R137: every word of the ROM is the one integer nearest to `2^30 cos(2 pi i / 32768)`;
the entries are in `[0, 2^30]` and strictly decreasing. -/
def Obligations.RomHoldsNearestCosines : Prop :=
  (∀ i ≤ 8192,
    |(qrom i : ℝ) - 2 ^ 30 * Real.cos (2 * Real.pi * i / 32768)| < 1 / 2 ∧
    (∀ t : Int, |(t : ℝ) - 2 ^ 30 * Real.cos (2 * Real.pi * i / 32768)| < 1 / 2 → t = qrom i) ∧
    qrom i ≤ 2 ^ 30) ∧
  ∀ i < 8192, qrom (i + 1) < qrom i

/-- 43_twiddle_rom R141: the lookup takes the angle `j << (15 - s)`, negates the sine for the forward
direction, stays in `[-2^30, 2^30]`, is conjugate between the directions and 1 at `j = 0`. -/
def Obligations.TwiddleLookupIsConjugate : Prop :=
  ∀ s j, 1 ≤ s → s ≤ 15 → j < 2 ^ (s - 1) →
    let c := tw (j * 2 ^ (15 - s))
    twiddle s j true = ⟨c.re, c.im⟩ ∧ twiddle s j false = ⟨c.re, -c.im⟩ ∧
    (∀ inv, -2 ^ 30 ≤ (twiddle s j inv).re ∧ (twiddle s j inv).re ≤ 2 ^ 30 ∧
      -2 ^ 30 ≤ (twiddle s j inv).im ∧ (twiddle s j inv).im ≤ 2 ^ 30) ∧
    ∀ inv, twiddle s 0 inv = ⟨2 ^ 30, 0⟩

/-- 43_twiddle_rom R138 and R139: the angle index is `j * 32768 / 2^s`, always below 16384 and the same
for every transform length; over that half circle the sine is not negative and the cosine is
not negative exactly up to the quarter, and the second quarter mirrors the first. -/
def Obligations.AnglesCoverHalfCircle : Prop :=
  (∀ s j, 1 ≤ s → s ≤ 15 → j < 2 ^ (s - 1) →
    angleIndex s j = j * 32768 / 2 ^ s ∧ angleIndex s j ≤ 16384 - 2 ^ (15 - s) ∧
    angleIndex s j < 16384) ∧
  ∀ q < 16384,
    0 ≤ (tw q).im ∧ (0 ≤ (tw q).re ↔ q ≤ 8192) ∧
    (q ≤ 8192 → tw q = ⟨qrom q, qrom (8192 - q)⟩) ∧
    (8192 < q → tw q = ⟨-(qrom (16384 - q) : Int), qrom (q - 8192)⟩)

/-! ## Arithmetic -/

/-- 00_scope R11: `rhaz_shr(v, k)` is `v / 2^k` rounded to the nearest integer with ties away from zero,
given by the rule's three formulas; it is odd; the rule's examples. -/
def Obligations.RoundingIsHalfAwayFromZero : Prop :=
  (∀ (v : Int) (k : Nat),
    rhazShr v 0 = v ∧
    (0 < k → 0 ≤ v → rhazShr v k = (v + 2 ^ (k - 1)) / 2 ^ k) ∧
    (0 < k → v < 0 → rhazShr v k = -((-v + 2 ^ (k - 1)) / 2 ^ k)) ∧
    2 * |2 ^ k * rhazShr v k - v| ≤ 2 ^ k ∧
    (2 * |2 ^ k * rhazShr v k - v| = 2 ^ k → |v| < |2 ^ k * rhazShr v k|) ∧
    rhazShr (-v) k = -rhazShr v k) ∧
  rhazShr 4 3 = 1 ∧ rhazShr (-4) 3 = -1 ∧ rhazShr 3 3 = 0 ∧ rhazShr (-12) 3 = -2 ∧
  rhazShr 11 3 = 1 ∧ rhazShr (-13) 3 = -2

/-- 44_complex_arith R154, items 1 to 8 in order. -/
def Obligations.TwiddleMultiplyLaws : Prop :=
  (∀ b : Cplx, cmulQ30 b ⟨2 ^ 30, 0⟩ = b) ∧
  (∀ b : Cplx, cmulQ30 b ⟨0, -2 ^ 30⟩ = ⟨b.im, -b.re⟩ ∧ cmulQ30 b ⟨0, 2 ^ 30⟩ = ⟨-b.im, b.re⟩) ∧
  (∀ w : Cplx, cmulQ30 ⟨0, 0⟩ w = ⟨0, 0⟩) ∧
  (∀ b w : Cplx, cmulQ30 ⟨-b.re, -b.im⟩ w = ⟨-(cmulQ30 b w).re, -(cmulQ30 b w).im⟩) ∧
  (∀ b w : Cplx, cmulQ30 ⟨b.re, -b.im⟩ ⟨w.re, -w.im⟩ = ⟨(cmulQ30 b w).re, -(cmulQ30 b w).im⟩) ∧
  (∀ b w : Cplx,
    2 * |2 ^ 30 * (cmulQ30 b w).re - (b.re * w.re - b.im * w.im)| ≤ 2 ^ 30 ∧
    2 * |2 ^ 30 * (cmulQ30 b w).im - (b.re * w.im + b.im * w.re)| ≤ 2 ^ 30) ∧
  (∃ b b' w : Cplx,
    |(cmulQ30 (cadd b b') w).re - ((cmulQ30 b w).re + (cmulQ30 b' w).re)| = 1) ∧
  (∀ (b w : Cplx) (A : Int), |b.re| ≤ A → |b.im| ≤ A → |w.re| ≤ 2 ^ 30 → |w.im| ≤ 2 ^ 30 →
    |(cmulQ30 b w).re| ≤ 2 * A ∧ |(cmulQ30 b w).im| ≤ 2 * A ∧
    (|w.re| + |w.im| ≤ 1518500250 →
      |(cmulQ30 b w).re| ≤ (A * 1518500250 + 2 ^ 29) / 2 ^ 30 ∧
      |(cmulQ30 b w).im| ≤ (A * 1518500250 + 2 ^ 29) / 2 ^ 30 ∧
      10000 * ((A * 1518500250 + 2 ^ 29) / 2 ^ 30) < 14143 * A + 10000))

/-- 44_complex_arith R157: the butterfly is `a + t`, `a - t` with one `t = w b`; its corner cases and
its two worked examples. -/
def Obligations.ButterflyLaws : Prop :=
  (∀ a b w : Cplx,
    bfly a b w = (cadd a (cmulQ30 b w), csub a (cmulQ30 b w)) ∧
    cadd (bfly a b w).1 (bfly a b w).2 = ⟨2 * a.re, 2 * a.im⟩ ∧
    bfly a ⟨0, 0⟩ w = (a, a) ∧
    bfly a b ⟨2 ^ 30, 0⟩ = (cadd a b, csub a b)) ∧
  (5 : Int) * 759250125 + 7 * 759250125 = 9111001500 ∧
  (-5 : Int) * 759250125 + 7 * 759250125 = 1518500250 ∧
  cmulQ30 ⟨5, 7⟩ ⟨759250125, -759250125⟩ = ⟨8, 1⟩ ∧
  cmulQ30 ⟨5, 7⟩ ⟨759250125, 759250125⟩ = ⟨-1, 8⟩ ∧
  bfly ⟨3, -1⟩ ⟨5, 7⟩ ⟨759250125, -759250125⟩ = (⟨11, 0⟩, ⟨-5, -2⟩) ∧
  bfly ⟨3, -1⟩ ⟨5, 7⟩ ⟨759250125, 759250125⟩ = (⟨2, 7⟩, ⟨4, -9⟩)

/-- 44_complex_arith R156: the twiddle products of passes 1 and 2 are exact, those of pass 3 at `j = 1`
and `j = 3` are not always. -/
def Obligations.FirstTwoPassesAreExact : Prop :=
  (∀ (s j : Nat) (inv : Bool) (b : Cplx), 1 ≤ s → s ≤ 2 → j < 2 ^ (s - 1) →
    let w := twiddle s j inv
    2 ^ 30 * (cmulQ30 b w).re = b.re * w.re - b.im * w.im ∧
    2 ^ 30 * (cmulQ30 b w).im = b.re * w.im + b.im * w.re) ∧
  (∀ (j : Nat) (inv : Bool) (b : Cplx), j = 0 ∨ j = 2 →
    let w := twiddle 3 j inv
    2 ^ 30 * (cmulQ30 b w).re = b.re * w.re - b.im * w.im ∧
    2 ^ 30 * (cmulQ30 b w).im = b.re * w.im + b.im * w.re) ∧
  ∀ inv : Bool, ∃ b : Cplx,
    2 ^ 30 * (cmulQ30 b (twiddle 3 1 inv)).re ≠
      b.re * (twiddle 3 1 inv).re - b.im * (twiddle 3 1 inv).im ∧
    2 ^ 30 * (cmulQ30 b (twiddle 3 3 inv)).re ≠
      b.re * (twiddle 3 3 inv).re - b.im * (twiddle 3 3 inv).im

/-! ## CONSTRUCT and DESTROY -/

/-- 45_transform_engine R171: CONSTRUCT is rejected with `ERR_STATE` while an instance exists and else
with `ERR_SIZE` unless the length is legal, changing nothing; otherwise it answers OK and leaves
`length`, `log2n`, the built table, domain TIME and `constructed`. -/
def Obligations.ConstructCreatesInstance : Prop :=
  (∀ (L : BitVec 32) (s : State),
    decode ⟨CommandWord.make 0x01#8 L, []⟩ = .command (.construct L) ∧
    (s.constructed = true →
      exec (.construct L) s = .next { s with response := some ⟨.errState, 0#64⟩ }) ∧
    (s.constructed = false → (¬ ∃ k, 1 ≤ k ∧ k ≤ 15 ∧ L.toNat = 2 ^ k) →
      exec (.construct L) s = .next { s with response := some ⟨.errSize, 0#64⟩ })) ∧
  ∀ (L : BitVec 32) (s : State) (k : Nat), s.mem.wf → s.constructed = false →
    1 ≤ k → k ≤ 15 → L.toNat = 2 ^ k →
    ∃ t, exec (.construct L) s = .next t ∧ t.response = some ⟨.ok, 0#64⟩ ∧
      t.constructed = true ∧ t.length.toNat = 2 ^ k ∧ t.log2n.toNat = k ∧ t.domain = .time ∧
      (∀ i < 2 ^ k, (t.mem.readTab i).toNat = bitrev i k) ∧
      (∀ i, 2 ^ k ≤ i → t.mem.readTab i = s.mem.readTab i ∧ t.mem.readRe i = s.mem.readRe i ∧
        t.mem.readIm i = s.mem.readIm i) ∧ t.inputs = s.inputs

/-- After a CONSTRUCT every buffer word of the instance holds a value of a new draw (the model's form
of `BUF_INIT`, log 6), a read before any transform returns it, and reading again returns the same
(10_state R25). The statement holds whatever the free values are. -/
def Obligations.ConstructDrawsBuffers : Prop :=
  ∀ (L : BitVec 32) (s t : State), s.mem.wf → exec (.construct L) s = .next t →
    s.constructed = false → t.constructed = true →
    t.draws = s.draws + 1 ∧
    ∀ index : BitVec 32, index.toNat < L.toNat →
      ∃ u v, exec (.resultRe index) t = .next u ∧
        u.response = some ⟨.ok, Config.freeRe s.draws index.toNat⟩ ∧
        exec (.resultRe index) u = .next u ∧
        exec (.resultIm index) t = .next v ∧
        v.response = some ⟨.ok, Config.freeIm s.draws index.toNat⟩ ∧
        exec (.resultIm index) v = .next v

/-- 45_transform_engine R174: DESTROY clears `constructed`, `length`, `log2n` and `domain` and answers
OK; its word with any reserved bit set is reserved; without an instance it changes nothing, and a
second DESTROY changes nothing. -/
def Obligations.DestroyTearsDown : Prop :=
  (∀ arg : BitVec 32,
    (arg = 0#32 → decode ⟨CommandWord.make 0x02#8 arg, []⟩ = .command .destroy) ∧
    (arg ≠ 0#32 → decode ⟨CommandWord.make 0x02#8 arg, []⟩ = .reserved .argBits ∧
      ∀ s, runCommand ⟨CommandWord.make 0x02#8 arg, []⟩ s =
        .next { s with response := some ⟨.errOp, 0#64⟩ })) ∧
  (∀ s : State, ∃ t, exec .destroy s = .next t ∧ t.response = some ⟨.ok, 0#64⟩ ∧
    t.constructed = false ∧ t.length = 0#16 ∧ t.log2n = 0#4 ∧ t.domain = .time ∧
    t.inputs = s.inputs ∧ exec .destroy t = .next t ∧
    (∀ index, exec (.resultRe index) t = .next { t with response := some ⟨.errState, 0#64⟩ } ∧
      exec (.resultIm index) t = .next { t with response := some ⟨.errState, 0#64⟩ }) ∧
    ∀ L, validLength L = true → ∃ u, exec (.construct L) t = .next u ∧ u.constructed = true) ∧
  ∀ s : State, s.Inv → s.constructed = false →
    exec .destroy s = .next { s with response := some ⟨.ok, 0#64⟩ }

/-! ## FORWARD and INVERSE -/

/-- FORWARD with the right count completes in every state that meets the invariants: the buffers hold
the decimation in time of the payload in natural order, on exact integers, domain is FREQ, and the
rest of the state is as it was (45_transform_engine R175, R176, R178, R179). -/
def Obligations.ForwardComputesDecimationInTime : Prop :=
  ∀ (s : State) (cnt : BitVec 32) (payload : List Sample), s.Inv → s.constructed = true →
    cnt.toNat = s.length.toNat → payload.length = s.length.toNat →
    ∃ t, exec (.forward cnt payload) s = .next t ∧ t.response = some ⟨.ok, 0#64⟩ ∧
      (∀ k < s.length.toNat,
        t.mem.readSample k = decimationInTime false s.log2n.toNat (inputSample payload) k) ∧
      (∀ i, s.length.toNat ≤ i →
        t.mem.readRe i = s.mem.readRe i ∧ t.mem.readIm i = s.mem.readIm i) ∧
      t = { s with mem := { s.mem with re := t.mem.re, im := t.mem.im }, domain := .freq,
                   response := some ⟨.ok, 0#64⟩ }

/-- INVERSE with the right count completes in every state that meets the invariants: the buffers hold
the conjugate network's result, divided by `length` with one rounding, domain is TIME, and the
rest of the state is as it was (45_transform_engine R175, R177, R182). -/
def Obligations.InverseComputesScaledConjugate : Prop :=
  ∀ (s : State) (cnt : BitVec 32) (payload : List Sample), s.Inv → s.constructed = true →
    cnt.toNat = s.length.toNat → payload.length = s.length.toNat →
    ∃ t, exec (.inverse cnt payload) s = .next t ∧ t.response = some ⟨.ok, 0#64⟩ ∧
      (∀ k < s.length.toNat,
        let c := decimationInTime true s.log2n.toNat (inputSample payload) k
        t.mem.readSample k = ⟨rhazShr c.re s.log2n.toNat, rhazShr c.im s.log2n.toNat⟩) ∧
      (∀ i, s.length.toNat ≤ i →
        t.mem.readRe i = s.mem.readRe i ∧ t.mem.readIm i = s.mem.readIm i) ∧
      t = { s with mem := { s.mem with re := t.mem.re, im := t.mem.im }, domain := .time,
                   response := some ⟨.ok, 0#64⟩ }

/-- 44_complex_arith R160: after pass `k` every word of the instance is at most `3^k 2^31` in magnitude,
so every stored word is below `2^55`, for every length and payload; the scaler only shrinks. -/
def Obligations.NoBufferWordOverflows : Prop :=
  (3 : Int) ^ 15 * 2 ^ 31 = 30814043149172736 ∧ (30814043149172736 : Int) < 2 ^ 55 ∧
  (3 : Int) ^ 14 * 2 ^ 31 < 2 ^ 54 ∧
  ∀ (s : State) (payload : List Sample) (inv : Bool), s.Inv → s.constructed = true →
    payload.length = s.length.toNat →
    let N := s.length.toNat
    let n := s.log2n.toNat
    (∀ k ≤ n, ∀ i < N,
      let c := (passes inv N k (permuteLoad payload s.mem)).readSample i
      |c.re| ≤ 3 ^ k * 2 ^ 31 ∧ |c.im| ≤ 3 ^ k * 2 ^ 31) ∧
    (∀ i < N,
      let c := (transform inv N n payload s.mem).readSample i
      |c.re| < 2 ^ 55 ∧ |c.im| < 2 ^ 55) ∧
    ∀ (v : Int) (k : Nat), |scaleN v k| ≤ |v|

/-- Running the butterflies of one pass in any order gives the same arrays (20_memory R60 item 3,
45_transform_engine R180). -/
def Obligations.ButterflyOrderIsIrrelevant : Prop :=
  ∀ (inv : Bool) (n s : Nat) (order : List (Nat × Nat)) (m : Memory), 1 ≤ s → s ≤ n →
    order.Perm (butterflies (2 ^ n) s) →
    order.foldl (butterflyAt inv s) m = pass inv (2 ^ n) m s

/-- A pass is `N/2` butterflies that touch every position exactly once, as upper or as lower operand,
and the two positions of each are inside the array (45_transform_engine R179). -/
def Obligations.PassTouchesEachPositionOnce : Prop :=
  ∀ n s : Nat, 1 ≤ s → s ≤ n →
    2 * (butterflies (2 ^ n) s).length = 2 ^ n ∧
    ((butterflies (2 ^ n) s).flatMap fun gj => [gj.1 + gj.2, gj.1 + gj.2 + 2 ^ (s - 1)]).Perm
      (List.range (2 ^ n))

/-- 45_transform_engine R178: the load leaves sample `tab[i]` at position `i`, so what a transform leaves
depends only on its payload, `length` and the direction, not on the old buffers, the old domain
or anything else. -/
def Obligations.TransformIgnoresOldBuffers : Prop :=
  ∀ (s s' : State) (cnt : BitVec 32) (payload : List Sample), s.Inv → s'.Inv →
    s.constructed = true → s'.constructed = true → s.length = s'.length →
    cnt.toNat = s.length.toNat → payload.length = s.length.toNat →
    (∀ i < s.length.toNat, (permuteLoad payload s.mem).readSample i =
      inputSample payload (s.mem.readTab i).toNat) ∧
    (∃ t t', exec (.forward cnt payload) s = .next t ∧ exec (.forward cnt payload) s' = .next t' ∧
      ∀ i < s.length.toNat, t.mem.readRe i = t'.mem.readRe i ∧ t.mem.readIm i = t'.mem.readIm i) ∧
    ∃ t t', exec (.inverse cnt payload) s = .next t ∧ exec (.inverse cnt payload) s' = .next t' ∧
      ∀ i < s.length.toNat, t.mem.readRe i = t'.mem.readRe i ∧ t.mem.readIm i = t'.mem.readIm i

/-- At lengths 2 and 4 FORWARD leaves the exact discrete Fourier transform of its payload, for every
payload (44_complex_arith R156, 45_transform_engine R176). -/
def Obligations.ShortForwardIsExactDft : Prop :=
  ∀ (s : State) (cnt : BitVec 32) (payload : List Sample), s.Inv → s.constructed = true →
    s.length.toNat = 2 ∨ s.length.toNat = 4 →
    cnt.toNat = s.length.toNat → payload.length = s.length.toNat →
    ∃ t, exec (.forward cnt payload) s = .next t ∧
      ∀ k < s.length.toNat,
        t.mem.readSample k = exactDft s.length.toNat (inputSample payload) k

/-- A constant payload `(c, d)` gives `(N c, N d)` at index 0 and `(0, 0)` elsewhere, at every length
(45_transform_engine R176, corner cases). -/
def Obligations.ForwardOfConstantIsImpulse : Prop :=
  ∀ (s : State) (cnt : BitVec 32) (x : Sample), s.Inv → s.constructed = true →
    cnt.toNat = s.length.toNat →
    ∃ t, exec (.forward cnt (List.replicate s.length.toNat x)) s = .next t ∧
      t.mem.readSample 0 = ⟨s.length.toNat * x.re.toInt, s.length.toNat * x.im.toInt⟩ ∧
      ∀ k, 0 < k → k < s.length.toNat → t.mem.readSample k = ⟨0, 0⟩

/-- A payload that is `(N c, N d)` at index 0 and zero elsewhere gives the constant `(c, d)` at every
index, at every length (45_transform_engine R177, corner cases). -/
def Obligations.InverseOfImpulseIsConstant : Prop :=
  ∀ (s : State) (cnt : BitVec 32) (x : Sample) (c d : Int), s.Inv → s.constructed = true →
    cnt.toNat = s.length.toNat →
    x.re.toInt = s.length.toNat * c → x.im.toInt = s.length.toNat * d →
    ∃ t, exec (.inverse cnt (x :: List.replicate (s.length.toNat - 1) ⟨0#32, 0#32⟩)) s = .next t ∧
      ∀ k < s.length.toNat, t.mem.readSample k = ⟨c, d⟩

/-- Lengths 2 and 4 round-trip exactly for every payload whose forward result fits the payload of
INVERSE (45_transform_engine R184 item 1). -/
def Obligations.RoundTripExactAtLengthsTwoAndFour : Prop :=
  ∀ (s t : State) (cnt : BitVec 32) (payload : List Sample), s.Inv → s.constructed = true →
    s.length.toNat = 2 ∨ s.length.toNat = 4 →
    cnt.toNat = s.length.toNat → payload.length = s.length.toNat →
    exec (.forward cnt payload) s = .next t → resultFits s.length.toNat t.mem = true →
    ∃ u, exec (.inverse cnt (readBackPayload s.length.toNat t.mem)) t = .next u ∧
      holdsPayload s.length.toNat u.mem payload

/-- Length 8 round-trips exactly for every payload whose forward result fits the payload of INVERSE,
although pass 3 rounds: the accumulated error stays below `N/2` and the scaler removes it
(45_transform_engine R184 item 2). -/
def Obligations.RoundTripExactAtLengthEight : Prop :=
  ∀ (s t : State) (cnt : BitVec 32) (payload : List Sample), s.Inv → s.constructed = true →
    s.length.toNat = 8 → cnt.toNat = 8 → payload.length = 8 →
    exec (.forward cnt payload) s = .next t → resultFits 8 t.mem = true →
    ∃ u, exec (.inverse cnt (readBackPayload 8 t.mem)) t = .next u ∧ holdsPayload 8 u.mem payload

/-- The source's four length-8 inputs: `(c, d)` constant with `c, d` in `{0, 1}` gives `(8c, 8d)` in bin 0
and zero in every other, and the inverse returns the input exactly (45_transform_engine R184). -/
def Obligations.SourceRoundTripsAtLengthEight : Prop :=
  ∀ (s : State) (c d : Bool), s.Inv → s.constructed = true → s.length.toNat = 8 →
    let x : Sample := ⟨if c then 1#32 else 0#32, if d then 1#32 else 0#32⟩
    ∃ t u, exec (.forward 8#32 (List.replicate 8 x)) s = .next t ∧
      t.mem.readSample 0 = ⟨if c then 8 else 0, if d then 8 else 0⟩ ∧
      (∀ k, 0 < k → k < 8 → t.mem.readSample k = ⟨0, 0⟩) ∧
      exec (.inverse 8#32 (readBackPayload 8 t.mem)) t = .next u ∧
      holdsPayload 8 u.mem (List.replicate 8 x)

/-- At length 16 a round trip can fail, even on inputs in `{-1, 0, 1}`: one real sample comes back as 1
instead of 0 (45_transform_engine R184 item 3). -/
def Obligations.RoundTripFailsAtLengthSixteen : Prop :=
  ∃ (s t u : State) (payload : List Sample), s.Inv ∧ s.constructed = true ∧
    s.length.toNat = 16 ∧ payload.length = 16 ∧
    (∀ i < 16, (inputSample payload i).re ∈ [-1, 0, 1] ∧ (inputSample payload i).im = 0) ∧
    exec (.forward 16#32 payload) s = .next t ∧ resultFits 16 t.mem = true ∧
    exec (.inverse 16#32 (readBackPayload 16 t.mem)) t = .next u ∧
    (inputSample payload 3).re = 0 ∧ (u.mem.readSample 3).re = 1

/-! ## Result reads -/

/-- 46_result_accessor R201 and R202: without an instance `ERR_STATE`; else `ERR_INDEX` unless the index,
unsigned on all 32 bits, is below `length`; else the whole 64-bit word; nothing else changes. -/
def Obligations.ResultReadsReturnBufferWords : Prop :=
  ∀ (s : State) (index : BitVec 32),
    (decode ⟨CommandWord.make 0x05#8 index, []⟩ = .command (.resultRe index) ∧
      decode ⟨CommandWord.make 0x06#8 index, []⟩ = .command (.resultIm index)) ∧
    (s.constructed = false →
      exec (.resultRe index) s = .next { s with response := some ⟨.errState, 0#64⟩ } ∧
      exec (.resultIm index) s = .next { s with response := some ⟨.errState, 0#64⟩ }) ∧
    (s.constructed = true → s.length.toNat ≤ index.toNat →
      exec (.resultRe index) s = .next { s with response := some ⟨.errIndex, 0#64⟩ } ∧
      exec (.resultIm index) s = .next { s with response := some ⟨.errIndex, 0#64⟩ }) ∧
    (s.Inv → s.constructed = true → index.toNat < s.length.toNat →
      exec (.resultRe index) s =
        .next { s with response := some ⟨.ok, s.mem.readRe index.toNat⟩ } ∧
      exec (.resultIm index) s =
        .next { s with response := some ⟨.ok, s.mem.readIm index.toNat⟩ })

/-- `READBACK` returns the real and the imaginary word of every index in order, `2 N` responses, and
leaves everything but the response port as it was (46_result_accessor R203, 30_encoding R83). -/
def Obligations.ReadbackReturnsWholeResult : Prop :=
  ∀ s : State, s.Inv → s.constructed = true →
    ∃ commands t, (readback s.length.toNat).mapM AsmLine.instr = some commands ∧
      runCommands commands s =
        some (t, (List.range s.length.toNat).flatMap fun i =>
          [⟨.ok, s.mem.readRe i⟩, ⟨.ok, s.mem.readIm i⟩]) ∧
      commands.length = 2 * s.length.toNat ∧ t = { s with response := t.response }

/-! ## Rejections -/

/-- 60_exceptions R221: a rejected command changes no element of the state, its payload has left the
channel with it, and the response is the code with data 0. -/
def Obligations.RejectionChangesNothing : Prop :=
  ∀ (s t : State) (r : Request) (rest : List HostInput) (x : Response),
    s.inputs = .command r :: rest → step s = .next t → t.response = some x → x.status ≠ .ok →
    t = { s with inputs := rest, response := some ⟨x.status, 0#64⟩ }

/-- 60_exceptions R222 to R226: every framed command is answered, and its code is that of the first
failing check in the order decode, lifecycle, operand. -/
def Obligations.FirstFailingCheckGivesCode : Prop :=
  ∀ (s : State) (r : Request) (rest : List HostInput), s.Inv → r.framed = true →
    s.inputs = .command r :: rest →
    ∃ t data, step s = .next t ∧
      t.response = some
        ⟨match decode r with
          | .reserved _ => .errOp
          | .command i => firstFailure s i, data⟩

/-! ## Frames and whole-machine rules -/

/-- RESULT_RE, RESULT_IM, ISPOW2 and ISQRT change nothing but the response port: no control bit, no
word of any array (10_state R35). -/
def Obligations.ReadOnlyCommandsFrame : Prop :=
  ∀ (i : Instr) (s t : State),
    ((∃ index, i = .resultRe index) ∨ (∃ index, i = .resultIm index) ∨ (∃ x, i = .ispow2 x) ∨
      ∃ x, i = .isqrt x) →
    exec i s = .next t → t = { s with response := t.response }

/-- FORWARD and INVERSE write only `re`, `im` below `length`, `domain` and the response port; rejected,
only the response port (10_state R34 item 5, R35). -/
def Obligations.TransformCommandsFrame : Prop :=
  ∀ (i : Instr) (s t : State), s.Inv →
    ((∃ cnt payload, i = .forward cnt payload) ∨ ∃ cnt payload, i = .inverse cnt payload) →
    exec i s = .next t →
    t.constructed = s.constructed ∧ t.length = s.length ∧ t.log2n = s.log2n ∧
    t.inputs = s.inputs ∧ t.draws = s.draws ∧
    (∀ a, t.mem.readTab a = s.mem.readTab a) ∧
    (∀ a, s.length.toNat ≤ a →
      t.mem.readRe a = s.mem.readRe a ∧ t.mem.readIm a = s.mem.readIm a) ∧
    (t.response ≠ some ⟨.ok, 0#64⟩ → t = { s with response := t.response })

/-- CONSTRUCT writes no array word at or above its length, DESTROY none at or above the length of the
instance, and neither touches what the host has presented; a rejected CONSTRUCT changes only the
response port (10_state R34 item 5, R35). -/
def Obligations.LifecycleCommandsFrame : Prop :=
  (∀ (L : BitVec 32) (s t : State), exec (.construct L) s = .next t →
    t.inputs = s.inputs ∧
    (∀ a, L.toNat ≤ a → t.mem.readTab a = s.mem.readTab a ∧ t.mem.readRe a = s.mem.readRe a ∧
      t.mem.readIm a = s.mem.readIm a) ∧
    (t.response ≠ some ⟨.ok, 0#64⟩ → t = { s with response := t.response })) ∧
  ∀ s t : State, exec .destroy s = .next t →
    t.inputs = s.inputs ∧
    ∀ a, s.length.toNat ≤ a → t.mem.readTab a = s.mem.readTab a ∧
      t.mem.readRe a = s.mem.readRe a ∧ t.mem.readIm a = s.mem.readIm a

/-- The lifecycle is changed by CONSTRUCT and DESTROY alone: no other command changes `constructed`,
`length`, `log2n` or the table (10_state R21, R22, R26, R35), nor the model's own draw counter (log 9). -/
def Obligations.OnlyLifecycleCommandsChangeInstance : Prop :=
  ∀ (i : Instr) (s t : State), exec i s = .next t →
    (t.constructed ≠ s.constructed ∨ t.length ≠ s.length ∨ t.log2n ≠ s.log2n ∨
      t.mem.tab ≠ s.mem.tab ∨ t.draws ≠ s.draws) →
    (∃ L, i = .construct L ∧ s.constructed = false ∧ t.constructed = true) ∨
    (i = .destroy ∧ t.constructed = false)

/-- Nothing reads the domain label: with another label a command gives the same response and the same
state but for the label; and the label only ever takes the value the successful command sets
(10_state R29, 45_transform_engine R174). -/
def Obligations.DomainIsWrittenNeverRead : Prop :=
  (∀ (i : Instr) (s t : State) (d : Domain), exec i s = .next t →
    ∃ t', exec i { s with domain := d } = .next t' ∧ { t' with domain := t.domain } = t) ∧
  ∀ (i : Instr) (s t : State), exec i s = .next t → t.domain ≠ s.domain →
    (t.domain = .time ∧ ((∃ L, i = .construct L) ∨ i = .destroy ∨ ∃ cnt p, i = .inverse cnt p)) ∨
    (t.domain = .freq ∧ ∃ cnt p, i = .forward cnt p)

/-- 20_memory R55: result reads, ISPOW2 and ISQRT repeat with the same response and state; so do DESTROY,
and FORWARD and INVERSE with the same payload; a second CONSTRUCT is rejected. -/
def Obligations.RepeatingACommand : Prop :=
  (∀ (i : Instr) (s t : State), s.Inv → (¬ ∃ L, i = .construct L) → exec i s = .next t →
    exec i t = .next t ∧
    ((∃ index, i = .resultRe index) ∨ (∃ index, i = .resultIm index) ∨ (∃ x, i = .ispow2 x) ∨
      (∃ x, i = .isqrt x) → t = { s with response := t.response })) ∧
  ∀ (L L' : BitVec 32) (s t : State), exec (.construct L) s = .next t → t.constructed = true →
    exec (.construct L') t = .next { t with response := some ⟨.errState, 0#64⟩ }

/-! ## Reset, invariants, totality -/

/-- The state after power-up: no instance, length 0, domain TIME, no response pending; in it the only
commands that succeed are CONSTRUCT with a legal length, DESTROY, ISPOW2 and ISQRT (10_state R37). That
nothing has been presented is the model's choice (log 1). -/
def Obligations.ResetStateValues : Prop :=
  State.reset.constructed = false ∧ State.reset.length = 0#16 ∧ State.reset.log2n = 0#4 ∧
  State.reset.domain = .time ∧ State.reset.response = none ∧ State.reset.inputs = [] ∧
  ∀ i : Instr, ∃ t x, exec i State.reset = .next t ∧ t.response = some x ∧
    (x.status = .ok ↔
      (∃ L k, i = .construct L ∧ 1 ≤ k ∧ k ≤ 15 ∧ L.toNat = 2 ^ k) ∨ i = .destroy ∨
      (∃ y, i = .ispow2 y) ∨ ∃ y, i = .isqrt y)

/-- A reset request clears the control state, leaves no response pending, and leaves the same control
state as DESTROY would (70_reset_and_hazards R250 to R252). That what the host presents later stays is
the model's choice (log 5). -/
def Obligations.ResetRequestEffect : Prop :=
  ∀ (s : State) (rest : List HostInput), s.inputs = .reset :: rest →
    ∃ t, step s = .next t ∧ t.constructed = false ∧ t.length = 0#16 ∧ t.log2n = 0#4 ∧
      t.domain = .time ∧ t.response = none ∧ t.inputs = rest ∧
      ∀ u, exec .destroy s = .next u →
        u.constructed = t.constructed ∧ u.length = t.length ∧ u.log2n = t.log2n ∧
        u.domain = t.domain

/-- Every step keeps the invariants of 10_state R34, from every state that meets them. -/
def Obligations.StepKeepsInvariant : Prop :=
  ∀ s t : State, s.Inv → step s = .next t → t.Inv

/-- The state after power-up meets the invariants of 10_state R34. -/
def Obligations.ResetMeetsInvariant : Prop := State.reset.Inv

/-- Where the invariants hold the step goes on, with no fault, no refusal and no hang, and an input the
host presents leaves them holding; so both are so in every state a unit and its host can reach
(60_exceptions R230, 10_state R34). That a step with nothing presented goes on, unchanged, is the
model's choice (log 3), and so is that a presented input is part of the state (log 1). -/
def Obligations.ReachableStatesGoOn : Prop :=
  (∀ s : State, s.Inv → s.goesOn ∧ ∀ x : HostInput, (s.offer x).Inv) ∧
  ∀ s : State, Reachable s → s.Inv ∧ s.goesOn
end

