-- ==== Sys2Proof/Laws/Encoding.lean ====
section
/-! SUPPORT. The small laws of the word formats (30_encoding R71 to R73): each field reads back what
was put there. -/

namespace Sys2Proof

theorem getLsbD_make (op : BitVec 8) (arg : BitVec 32) (i : Nat) :
    (CommandWord.make op arg).getLsbD i = if i < 32 then arg.getLsbD i else op.getLsbD (i - 32) :=
  BitVec.getLsbD_append

theorem getLsbD_toBeat (x : Sample) (i : Nat) :
    x.toBeat.getLsbD i = if i < 32 then x.re.getLsbD i else x.im.getLsbD (i - 32) :=
  BitVec.getLsbD_append

@[simp] theorem op_make (op : BitVec 8) (arg : BitVec 32) : (CommandWord.make op arg).op = op := by
  apply BitVec.eq_of_getLsbD_eq
  intro i hi
  simp only [CommandWord.op, BitVec.getLsbD_extractLsb', getLsbD_make]
  simp [hi]

@[simp] theorem arg_make (op : BitVec 8) (arg : BitVec 32) : (CommandWord.make op arg).arg = arg := by
  apply BitVec.eq_of_getLsbD_eq
  intro i hi
  simp only [CommandWord.arg, BitVec.getLsbD_extractLsb', getLsbD_make]
  simp [hi]

@[simp] theorem make_op_arg (cw : CommandWord) : CommandWord.make cw.op cw.arg = cw := by
  apply BitVec.eq_of_getLsbD_eq
  intro i hi
  rw [getLsbD_make]
  simp only [CommandWord.op, CommandWord.arg, BitVec.getLsbD_extractLsb']
  by_cases h : i < 32
  · simp [h]
  · have h' : i - 32 < 8 := by omega
    have h'' : 32 + (i - 32) = i := by omega
    simp [h, h', h'']

@[simp] theorem ofBeat_toBeat (x : Sample) : Sample.ofBeat x.toBeat = x := by
  have h1 : x.toBeat.extractLsb' 0 32 = x.re := by
    apply BitVec.eq_of_getLsbD_eq
    intro i hi
    simp only [BitVec.getLsbD_extractLsb', getLsbD_toBeat]
    simp [hi]
  have h2 : x.toBeat.extractLsb' 32 32 = x.im := by
    apply BitVec.eq_of_getLsbD_eq
    intro i hi
    simp only [BitVec.getLsbD_extractLsb', getLsbD_toBeat]
    simp [hi]
  simp only [Sample.ofBeat, h1, h2]

@[simp] theorem toBeat_ofBeat (b : Beat) : (Sample.ofBeat b).toBeat = b := by
  apply BitVec.eq_of_getLsbD_eq
  intro i hi
  rw [getLsbD_toBeat]
  simp only [Sample.ofBeat, BitVec.getLsbD_extractLsb']
  by_cases h : i < 32
  · simp [h]
  · have h' : i - 32 < 32 := by omega
    have h'' : 32 + (i - 32) = i := by omega
    simp [h, h', h'']

@[simp] theorem length_beatsOfBits (n v : Nat) : (beatsOfBits n v).length = n := by
  induction n generalizing v with
  | zero => rfl
  | succ n ih => simp [beatsOfBits, ih]

/-- A request made from a number is framed. -/
theorem requestOfBits_framed (nbits w : Nat) : (requestOfBits nbits w).framed = true := by
  simp [Request.framed, requestOfBits]

end Sys2Proof
end

