-- ==== Sys2Proof/Laws/Memory.lean ====
section
/-! SUPPORT. The laws of the arrays: a read after a write, what a write leaves alone, and that every
operation keeps each array at its full depth (`Memory.wf`). -/

namespace Sys2Proof.Machine

theorem nMax_eq : Config.nMax = 32768 := rfl

/-! ## Lists -/

@[simp] theorem length_tabulate {α : Type} (f : Nat → α) (n i : Nat) :
    (tabulate f n i).length = n := by
  induction n generalizing i with
  | zero => rfl
  | succ n ih => simp [tabulate, ih]

theorem getD_tabulate {α : Type} (f : Nat → α) (n i j : Nat) (d : α) :
    (tabulate f n i).getD j d = if j < n then f (i + j) else d := by
  induction n generalizing i j with
  | zero => simp [tabulate]
  | succ n ih => cases j with
    | zero => simp [tabulate]
    | succ j =>
      have h : i + 1 + j = i + (j + 1) := by omega
      rw [tabulate, List.getD_cons_succ, ih, h]
      simp only [Nat.add_lt_add_iff_right]

@[simp] theorem length_fill {α : Type} (f : Nat → α) (n i : Nat) (l : List α) :
    (fill f n i l).length = l.length := by
  induction n generalizing i l with
  | zero => rfl
  | succ n ih => cases l with
    | nil => rfl
    | cons a l => simp [fill, ih]

/-- Word `j` of a filled array: drawn below `n`, as before from `n` on. -/
theorem getD_fill {α : Type} (f : Nat → α) (n i j : Nat) (l : List α) (d : α) :
    (fill f n i l).getD j d = if j < n ∧ j < l.length then f (i + j) else l.getD j d := by
  induction n generalizing i j l with
  | zero => simp [fill]
  | succ n ih => cases l with
    | nil => simp [fill]
    | cons a l => cases j with
      | zero => simp [fill]
      | succ j =>
        have h : i + 1 + j = i + (j + 1) := by omega
        rw [fill, List.getD_cons_succ, List.getD_cons_succ, ih, h]
        simp only [List.length_cons, Nat.add_lt_add_iff_right]

theorem getD_set {α : Type} (l : List α) (i j : Nat) (v d : α) :
    (l.set i v).getD j d = if i = j ∧ i < l.length then v else l.getD j d := by
  by_cases h : i = j
  · subst h
    by_cases hl : i < l.length
    · simp [List.getD_eq_getElem?_getD, hl]
    · simp [List.getD_eq_getElem?_getD, hl]
  · simp [List.getD_eq_getElem?_getD, List.getElem?_set_ne h, h]

/-! ## Reading after writing one word -/

theorem Memory.readTab_writeTab (m : Memory) (i j : Nat) (v : TabWord) :
    (m.writeTab i v).readTab j = if i = j ∧ i < m.tab.length then v else m.readTab j :=
  getD_set ..

theorem Memory.readRe_writeRe (m : Memory) (i j : Nat) (v : BufWord) :
    (m.writeRe i v).readRe j = if i = j ∧ i < m.re.length then v else m.readRe j :=
  getD_set ..

theorem Memory.readIm_writeIm (m : Memory) (i j : Nat) (v : BufWord) :
    (m.writeIm i v).readIm j = if i = j ∧ i < m.im.length then v else m.readIm j :=
  getD_set ..

@[simp] theorem Memory.readTab_writeRe (m : Memory) (i j : Nat) (v : BufWord) :
    (m.writeRe i v).readTab j = m.readTab j := rfl

@[simp] theorem Memory.readTab_writeIm (m : Memory) (i j : Nat) (v : BufWord) :
    (m.writeIm i v).readTab j = m.readTab j := rfl

@[simp] theorem Memory.readRe_writeIm (m : Memory) (i j : Nat) (v : BufWord) :
    (m.writeIm i v).readRe j = m.readRe j := rfl

@[simp] theorem Memory.readRe_writeTab (m : Memory) (i j : Nat) (v : TabWord) :
    (m.writeTab i v).readRe j = m.readRe j := rfl

@[simp] theorem Memory.readIm_writeRe (m : Memory) (i j : Nat) (v : BufWord) :
    (m.writeRe i v).readIm j = m.readIm j := rfl

@[simp] theorem Memory.readIm_writeTab (m : Memory) (i j : Nat) (v : TabWord) :
    (m.writeTab i v).readIm j = m.readIm j := rfl

@[simp] theorem Memory.writeRe_tab (m : Memory) (i : Nat) (v : BufWord) :
    (m.writeRe i v).tab = m.tab := rfl

@[simp] theorem Memory.writeRe_im (m : Memory) (i : Nat) (v : BufWord) :
    (m.writeRe i v).im = m.im := rfl

@[simp] theorem Memory.writeIm_tab (m : Memory) (i : Nat) (v : BufWord) :
    (m.writeIm i v).tab = m.tab := rfl

@[simp] theorem Memory.writeIm_re (m : Memory) (i : Nat) (v : BufWord) :
    (m.writeIm i v).re = m.re := rfl

@[simp] theorem Memory.writeTab_re (m : Memory) (i : Nat) (v : TabWord) :
    (m.writeTab i v).re = m.re := rfl

@[simp] theorem Memory.writeTab_im (m : Memory) (i : Nat) (v : TabWord) :
    (m.writeTab i v).im = m.im := rfl

@[simp] theorem Memory.writeSample_tab (m : Memory) (i : Nat) (c : Cplx) :
    (m.writeSample i c).tab = m.tab := rfl

@[simp] theorem Memory.readTab_writeSample (m : Memory) (i j : Nat) (c : Cplx) :
    (m.writeSample i c).readTab j = m.readTab j := rfl

/-! ## Depths -/

@[simp] theorem Memory.length_writeTab (m : Memory) (i : Nat) (v : TabWord) :
    (m.writeTab i v).tab.length = m.tab.length := List.length_set ..

@[simp] theorem Memory.length_writeRe (m : Memory) (i : Nat) (v : BufWord) :
    (m.writeRe i v).re.length = m.re.length := List.length_set ..

@[simp] theorem Memory.length_writeIm (m : Memory) (i : Nat) (v : BufWord) :
    (m.writeIm i v).im.length = m.im.length := List.length_set ..

theorem Memory.writeTab_wf {m : Memory} (h : m.wf) (i : Nat) (v : TabWord) :
    (m.writeTab i v).wf := by
  simpa [Memory.wf] using h

theorem Memory.writeRe_wf {m : Memory} (h : m.wf) (i : Nat) (v : BufWord) :
    (m.writeRe i v).wf := by
  simpa [Memory.wf] using h

theorem Memory.writeIm_wf {m : Memory} (h : m.wf) (i : Nat) (v : BufWord) :
    (m.writeIm i v).wf := by
  simpa [Memory.wf] using h

theorem Memory.writeSample_wf {m : Memory} (h : m.wf) (i : Nat) (c : Cplx) :
    (m.writeSample i c).wf :=
  Memory.writeIm_wf (Memory.writeRe_wf h _ _) _ _

theorem Memory.drawBuffers_wf {m : Memory} (h : m.wf) (d n : Nat) : (m.drawBuffers d n).wf := by
  simpa [Memory.wf, Memory.drawBuffers] using h

theorem Memory.forget_wf {m : Memory} (h : m.wf) (d n : Nat) : (m.forget d n).wf := by
  simpa [Memory.wf, Memory.forget, Memory.drawBuffers] using h

/-- What a fold keeps if each of its steps keeps it. -/
theorem foldl_keeps {α β : Type} (P : β → Prop) (f : β → α → β) (hf : ∀ b a, P b → P (f b a))
    (l : List α) (b : β) (h : P b) : P (l.foldl f b) := by
  induction l generalizing b with
  | nil => exact h
  | cons a l ih => exact ih _ (hf b a h)

theorem tableEntry_wf {m : Memory} (h : m.wf) (M k : Nat) : (tableEntry M m k).wf :=
  Memory.writeTab_wf (Memory.writeTab_wf h _ _) _ _

theorem tableDouble_wf {m : Memory} (h : m.wf) (M : Nat) : (tableDouble m M).wf :=
  foldl_keeps Memory.wf _ (fun _ k hm => tableEntry_wf hm M k) _ _ h

/-- The builder keeps the arrays at full depth (42_permutation_table R121). -/
theorem buildTable_wf {m : Memory} (h : m.wf) (N : Nat) : (buildTable N m).wf :=
  foldl_keeps Memory.wf _ (fun _ M hm => tableDouble_wf hm M) _ _ (Memory.writeTab_wf h _ _)

theorem loadBeat_wf {m : Memory} (h : m.wf) (beat : Sample × Nat) : (loadBeat m beat).wf :=
  Memory.writeIm_wf (Memory.writeRe_wf h _ _) _ _

/-- The permuting load keeps the arrays at full depth (42_permutation_table R125). -/
theorem permuteLoad_wf {m : Memory} (h : m.wf) (payload : List Sample) : (permuteLoad payload m).wf :=
  foldl_keeps Memory.wf _ (fun _ b hm => loadBeat_wf hm b) _ _ h

theorem butterflyAt_wf {m : Memory} (h : m.wf) (inv : Bool) (s : Nat) (gj : Nat × Nat) :
    (butterflyAt inv s m gj).wf :=
  Memory.writeSample_wf (Memory.writeSample_wf h _ _) _ _

theorem pass_wf {m : Memory} (h : m.wf) (inv : Bool) (N s : Nat) : (pass inv N m s).wf :=
  foldl_keeps Memory.wf _ (fun _ gj hm => butterflyAt_wf hm inv s gj) _ _ h

theorem passes_wf {m : Memory} (h : m.wf) (inv : Bool) (N n : Nat) : (passes inv N n m).wf :=
  foldl_keeps Memory.wf _ (fun _ s hm => pass_wf hm inv N s) _ _ h

theorem scaleAll_wf {m : Memory} (h : m.wf) (N n : Nat) : (scaleAll N n m).wf :=
  foldl_keeps Memory.wf _ (fun _ _ hm => Memory.writeSample_wf hm _ _) _ _ h

/-- A transform keeps the arrays at full depth (45_transform_engine R175). -/
theorem transform_wf {m : Memory} (h : m.wf) (inv : Bool) (N n : Nat) (payload : List Sample) :
    (transform inv N n payload m).wf := by
  unfold transform
  split
  · exact scaleAll_wf (passes_wf (permuteLoad_wf h _) _ _ _) _ _
  · exact passes_wf (permuteLoad_wf h _) _ _ _

/-- Power-up memory has the full depth. -/
theorem reset_mem_wf : State.reset.mem.wf := by
  simp [Memory.wf, State.reset]

/-! ## Unspecified contents -/

theorem Memory.readRe_drawBuffers {m : Memory} (h : m.wf) (d n i : Nat) (hi : i < Config.nMax) :
    (m.drawBuffers d n).readRe i = if i < n then Config.freeRe d i else m.readRe i := by
  simp only [Memory.readRe, Memory.drawBuffers, getD_fill, h.2.1, hi, and_true, Nat.zero_add]

theorem Memory.readIm_drawBuffers {m : Memory} (h : m.wf) (d n i : Nat) (hi : i < Config.nMax) :
    (m.drawBuffers d n).readIm i = if i < n then Config.freeIm d i else m.readIm i := by
  simp only [Memory.readIm, Memory.drawBuffers, getD_fill, h.2.2, hi, and_true, Nat.zero_add]

@[simp] theorem Memory.readTab_drawBuffers (m : Memory) (d n i : Nat) :
    (m.drawBuffers d n).readTab i = m.readTab i := rfl

/-! ## What the builder and the transform never write -/

theorem tableDouble_buffers (m : Memory) (M : Nat) :
    (tableDouble m M).re = m.re ∧ (tableDouble m M).im = m.im :=
  foldl_keeps (fun x : Memory => x.re = m.re ∧ x.im = m.im) (tableEntry M) (fun _ _ h => h) _ _ ⟨rfl, rfl⟩

/-- The builder writes the table only (42_permutation_table R121). -/
theorem buildTable_buffers (m : Memory) (N : Nat) :
    (buildTable N m).re = m.re ∧ (buildTable N m).im = m.im :=
  foldl_keeps (fun x : Memory => x.re = m.re ∧ x.im = m.im) _
    (fun x M h => ⟨(tableDouble_buffers x M).1.trans h.1, (tableDouble_buffers x M).2.trans h.2⟩)
    _ _ ⟨rfl, rfl⟩

theorem permuteLoad_tab (payload : List Sample) (m : Memory) : (permuteLoad payload m).tab = m.tab :=
  foldl_keeps (fun x : Memory => x.tab = m.tab) loadBeat (fun _ _ h => h) _ _ rfl

theorem pass_tab (inv : Bool) (N s : Nat) (m : Memory) : (pass inv N m s).tab = m.tab :=
  foldl_keeps (fun x : Memory => x.tab = m.tab) (butterflyAt inv s) (fun _ _ h => h) _ _ rfl

theorem passes_tab (inv : Bool) (N n : Nat) (m : Memory) : (passes inv N n m).tab = m.tab :=
  foldl_keeps (fun x : Memory => x.tab = m.tab) _ (fun x s h => (pass_tab inv N s x).trans h) _ _ rfl

theorem scaleAll_tab (N n : Nat) (m : Memory) : (scaleAll N n m).tab = m.tab :=
  foldl_keeps (fun x : Memory => x.tab = m.tab) (scaleAt n) (fun _ _ h => h) _ _ rfl

/-- No transform writes the table (10_state R26). -/
theorem transform_tab (inv : Bool) (N n : Nat) (payload : List Sample) (m : Memory) :
    (transform inv N n payload m).tab = m.tab := by
  unfold transform
  split
  · rw [scaleAll_tab, passes_tab, permuteLoad_tab]
  · rw [passes_tab, permuteLoad_tab]

end Sys2Proof.Machine
end

