-- ==== Sys2Proof/Laws/Engine.lean ====
section
/-! SUPPORT. What each shared operation of the engine does, said once and by index: one doubling of
the table, the permuting load, one pass, the scaler. Proofs about transforms cite these and do not
unfold the folds again. -/

namespace Sys2Proof.Machine

/-! ## Samples -/

/-- The integer a stored part reads back as: itself when it fits `s64`, which 44_complex_arith R160
gives for every stored value. -/
def stored (v : Int) : Int := (BitVec.ofInt 64 v).toInt

theorem stored_of_fits {v : Int} (h₁ : -2 ^ 63 ≤ v) (h₂ : v < 2 ^ 63) : stored v = v := by
  simp only [stored, BitVec.toInt_ofInt]
  rw [Int.bmod_def]
  split <;> omega

theorem Memory.readSample_writeSample {m : Memory} (h : m.wf) (i j : Nat) (c : Cplx) :
    (m.writeSample i c).readSample j =
      if i = j ∧ i < Config.nMax then ⟨stored c.re, stored c.im⟩ else m.readSample j := by
  simp only [Memory.writeSample, Memory.readSample, Memory.readRe_writeIm, Memory.readIm_writeIm,
    Memory.readRe_writeRe, Memory.readIm_writeRe, h.2.1, h.2.2, Memory.writeRe_im, stored]
  split <;> rfl

/-! ## One doubling of the table (42_permutation_table R121, R122) -/

/-- The part of a doubling that has run the inner steps `k` from `M - 1` down to `j`. -/
theorem tableDouble_part {m : Memory} (h : m.wf) {M : Nat} (hM : 2 * M ≤ Config.nMax) (n : Nat)
    (hn : n ≤ M) (i : Nat) :
    (((List.range M).reverse.take n).foldl (tableEntry M) m).readTab i =
      if 2 * (M - n) ≤ i ∧ i < 2 * M then
        m.readTab (i / 2) + (if i % 2 = 1 then BitVec.ofNat 16 M else 0#16)
      else m.readTab i := by
  induction n generalizing i with
  | zero =>
    have : ¬ (2 * (M - 0) ≤ i ∧ i < 2 * M) := by omega
    rw [if_neg this]
    rfl
  | succ n ih =>
    have hlt : n < (List.range M).reverse.length := by simp; omega
    have hk : (List.range M).reverse[n] = M - 1 - n := by simp
    have hwf : (((List.range M).reverse.take n).foldl (tableEntry M) m).wf :=
      foldl_keeps Memory.wf _ (fun _ k hm => tableEntry_wf hm M k) _ _ h
    rw [List.take_succ_eq_append_getElem hlt, List.foldl_append, hk]
    generalize hk' : M - 1 - n = k
    simp only [List.foldl_cons, List.foldl_nil, tableEntry, Memory.readTab_writeTab,
      Memory.length_writeTab, hwf.1]
    simp only [ih (by omega)]
    have hold : ¬ (2 * (M - n) ≤ k ∧ k < 2 * M) := by omega
    simp only [hold, if_false]
    rw [nMax_eq] at *
    by_cases h0 : 2 * k = i
    · subst h0
      have e1 : 2 * k < 32768 := by omega
      have e2 : 2 * (M - (n + 1)) ≤ 2 * k ∧ 2 * k < 2 * M := by omega
      have e3 : 2 * k / 2 = k := by omega
      have e4 : ¬ (2 * k % 2 = 1) := by omega
      simp only [e1, e2, e3, e4, and_self, if_true, if_false, BitVec.add_zero]
    · by_cases h1 : 2 * k + 1 = i
      · subst h1
        have e1 : 2 * k + 1 < 32768 := by omega
        have e2 : 2 * (M - (n + 1)) ≤ 2 * k + 1 ∧ 2 * k + 1 < 2 * M := by omega
        have e3 : (2 * k + 1) / 2 = k := by omega
        have e4 : (2 * k + 1) % 2 = 1 := by omega
        simp only [h0, e1, e2, e3, e4, and_self, false_and, if_true, if_false]
      · have e : (2 * (M - (n + 1)) ≤ i ∧ i < 2 * M) ↔ (2 * (M - n) ≤ i ∧ i < 2 * M) := by omega
        simp only [h0, h1, e, false_and, if_false]

/-- One doubling: `new[2k] = old[k]`, `new[2k+1] = old[k] + M`, every other word as before. -/
theorem readTab_tableDouble {m : Memory} (h : m.wf) {M : Nat} (hM : 2 * M ≤ Config.nMax) (i : Nat) :
    (tableDouble m M).readTab i =
      if i < 2 * M then m.readTab (i / 2) + (if i % 2 = 1 then BitVec.ofNat 16 M else 0#16)
      else m.readTab i := by
  have hp := tableDouble_part h hM M (Nat.le_refl M) i
  rw [List.take_of_length_le (by simp)] at hp
  simpa [tableDouble] using hp

/-! ## The permuting load (42_permutation_table R125) -/

theorem loadBeats_untouched {m : Memory} (l : List (Sample × Nat)) (p : Nat)
    (hp : ∀ b ∈ l, (m.readTab b.2).toNat ≠ p) :
    (l.foldl loadBeat m).readRe p = m.readRe p ∧ (l.foldl loadBeat m).readIm p = m.readIm p := by
  induction l generalizing m with
  | nil => exact ⟨rfl, rfl⟩
  | cons b l ih =>
    have hb : (m.readTab b.2).toNat ≠ p := hp b (by simp)
    have := ih (m := loadBeat m b) (fun b' hb' => hp b' (by simp [hb']))
    simp only [List.foldl_cons, this]
    simp [loadBeat, Memory.readRe_writeRe, Memory.readIm_writeIm, hb]

theorem loadBeats_target {m : Memory} (h : m.wf) (l : List (Sample × Nat))
    (hl : l.Pairwise fun a b => (m.readTab a.2).toNat ≠ (m.readTab b.2).toNat)
    (b : Sample × Nat) (hb : b ∈ l) (hlt : (m.readTab b.2).toNat < Config.nMax) :
    (l.foldl loadBeat m).readRe (m.readTab b.2).toNat = sext64 b.1.re ∧
      (l.foldl loadBeat m).readIm (m.readTab b.2).toNat = sext64 b.1.im := by
  induction l generalizing m with
  | nil => simp at hb
  | cons a l ih =>
    rw [List.pairwise_cons] at hl
    rcases List.mem_cons.mp hb with rfl | hb'
    · have hne : ∀ c ∈ l, ((loadBeat m b).readTab c.2).toNat ≠ (m.readTab b.2).toNat :=
        fun c hc => (hl.1 c hc).symm
      have hu := loadBeats_untouched (m := loadBeat m b) l (m.readTab b.2).toNat hne
      simp only [List.foldl_cons, hu]
      simp only [loadBeat, Memory.readRe_writeIm, Memory.readIm_writeIm, Memory.readRe_writeRe,
        Memory.writeRe_im, h.2.1, h.2.2, hlt, and_self, if_true]
    · exact ih (m := loadBeat m a) (loadBeat_wf h a) hl.2 hb' hlt

/-- Where the load puts beat `i`, for a table whose targets are distinct (42_permutation_table R125). -/
theorem permuteLoad_target {m : Memory} (h : m.wf) (payload : List Sample)
    (hinj : ∀ i j, i < j → j < payload.length → (m.readTab i).toNat ≠ (m.readTab j).toNat)
    (i : Nat) (hi : i < payload.length) (hlt : (m.readTab i).toNat < Config.nMax) :
    (permuteLoad payload m).readRe (m.readTab i).toNat = sext64 payload[i].re ∧
      (permuteLoad payload m).readIm (m.readTab i).toNat = sext64 payload[i].im := by
  have hl : payload.zipIdx.Pairwise fun a b => (m.readTab a.2).toNat ≠ (m.readTab b.2).toNat := by
    rw [List.pairwise_iff_getElem]
    intro a b ha hb hab
    simpa using hinj a b hab (by simpa using hb)
  have hmem : (payload[i], i) ∈ payload.zipIdx := by
    rw [List.mem_zipIdx_iff_getElem?]
    simp [hi]
  exact loadBeats_target h payload.zipIdx hl (payload[i], i) hmem hlt

/-- The load leaves every position that is no target. -/
theorem permuteLoad_untouched (m : Memory) (payload : List Sample) (p : Nat)
    (hp : ∀ i < payload.length, (m.readTab i).toNat ≠ p) :
    (permuteLoad payload m).readRe p = m.readRe p ∧
      (permuteLoad payload m).readIm p = m.readIm p := by
  refine loadBeats_untouched payload.zipIdx p fun b hb => hp b.2 ?_
  have := List.mem_zipIdx_iff_getElem?.mp hb
  exact (List.getElem?_eq_some_iff.mp this).1

/-! ## One pass (45_transform_engine R179) -/

/-- The two positions of a butterfly of pass `s`. -/
def touches (s : Nat) (gj : Nat × Nat) (p : Nat) : Prop :=
  p = gj.1 + gj.2 ∨ p = gj.1 + gj.2 + 2 ^ (s - 1)

/-- What one butterfly does to a sample. -/
theorem readSample_butterflyAt {m : Memory} (h : m.wf) (inv : Bool) (s : Nat) (gj : Nat × Nat)
    (hlt : gj.1 + gj.2 + 2 ^ (s - 1) < Config.nMax) (p : Nat) :
    (butterflyAt inv s m gj).readSample p =
      let r := bfly (m.readSample (gj.1 + gj.2)) (m.readSample (gj.1 + gj.2 + 2 ^ (s - 1)))
        (twiddle s gj.2 inv)
      if p = gj.1 + gj.2 + 2 ^ (s - 1) then ⟨stored r.2.re, stored r.2.im⟩
      else if p = gj.1 + gj.2 then ⟨stored r.1.re, stored r.1.im⟩
      else m.readSample p := by
  have hlt' : gj.1 + gj.2 < Config.nMax := Nat.lt_of_le_of_lt (Nat.le_add_right ..) hlt
  simp only [butterflyAt, Memory.readSample_writeSample (Memory.writeSample_wf h _ _),
    Memory.readSample_writeSample h, hlt, hlt', and_true, eq_comm]

theorem butterflies_untouched {m : Memory} (h : m.wf) (inv : Bool) (s : Nat) (l : List (Nat × Nat))
    (hlt : ∀ gj ∈ l, gj.1 + gj.2 + 2 ^ (s - 1) < Config.nMax) (p : Nat)
    (hp : ∀ gj ∈ l, ¬ touches s gj p) :
    (l.foldl (butterflyAt inv s) m).readSample p = m.readSample p := by
  induction l generalizing m with
  | nil => rfl
  | cons a l ih =>
    rw [List.foldl_cons, ih (butterflyAt_wf h inv s a) (fun x hx => hlt x (by simp [hx]))
      (fun x hx => hp x (by simp [hx])), readSample_butterflyAt h inv s a (hlt a (by simp))]
    have ha := hp a (by simp)
    simp only [touches, not_or] at ha
    simp only [ha, if_false]

/-- Butterflies on disjoint positions: each reads what was there before all of them. -/
theorem butterflies_touched {m : Memory} (h : m.wf) (inv : Bool) (s : Nat) (l : List (Nat × Nat))
    (hlt : ∀ gj ∈ l, gj.1 + gj.2 + 2 ^ (s - 1) < Config.nMax)
    (hdis : l.Pairwise fun a b => ∀ p, ¬ (touches s a p ∧ touches s b p))
    (gj : Nat × Nat) (hgj : gj ∈ l) (p : Nat) (hp : touches s gj p) :
    (l.foldl (butterflyAt inv s) m).readSample p = (butterflyAt inv s m gj).readSample p := by
  induction l generalizing m with
  | nil => simp at hgj
  | cons a l ih =>
    rw [List.pairwise_cons] at hdis
    rw [List.foldl_cons]
    rcases List.mem_cons.mp hgj with rfl | hgj'
    · exact butterflies_untouched (butterflyAt_wf h inv s gj) inv s l
        (fun x hx => hlt x (by simp [hx])) p (fun x hx ht => hdis.1 x hx p ⟨hp, ht⟩)
    · rw [ih (butterflyAt_wf h inv s a) (fun x hx => hlt x (by simp [hx])) hdis.2 hgj']
      have hne := hdis.1 gj hgj'
      have h0 : ∀ q, touches s gj q → (butterflyAt inv s m a).readSample q = m.readSample q := by
        intro q hq
        have hq' : ¬ touches s a q := fun hc => hne q ⟨hc, hq⟩
        simp only [touches, not_or] at hq'
        simp only [readSample_butterflyAt h inv s a (hlt a (by simp)), hq', if_false]
      rw [readSample_butterflyAt (butterflyAt_wf h inv s a) inv s gj (hlt gj (by simp [hgj'])),
        readSample_butterflyAt h inv s gj (hlt gj (by simp [hgj'])),
        h0 _ (Or.inl rfl), h0 _ (Or.inr rfl), h0 p hp]

theorem mem_butterflies {N s : Nat} {gj : Nat × Nat} :
    gj ∈ butterflies N s ↔ ∃ q < N / 2 ^ s, gj.1 = q * 2 ^ s ∧ gj.2 < 2 ^ (s - 1) := by
  rcases gj with ⟨g, j⟩
  simp only [butterflies, List.mem_flatMap, List.mem_range, List.mem_map, Prod.mk.injEq]
  constructor
  · rintro ⟨q, hq, j', hj', rfl, rfl⟩
    exact ⟨q, hq, rfl, hj'⟩
  · rintro ⟨q, hq, rfl, hj⟩
    exact ⟨q, hq, j, hj, rfl, rfl⟩

theorem two_mul_half {s : Nat} (hs : 1 ≤ s) : 2 ^ s = 2 * 2 ^ (s - 1) := by
  obtain ⟨k, rfl⟩ := Nat.exists_eq_add_of_le hs
  simp [Nat.pow_add]

/-- Every position of a butterfly is below `N` (45_transform_engine R179). -/
theorem butterflies_in_range {N s : Nat} (hs : 1 ≤ s) {gj : Nat × Nat} (h : gj ∈ butterflies N s) :
    gj.1 + gj.2 + 2 ^ (s - 1) < N := by
  obtain ⟨q, hq, hg, hj⟩ := mem_butterflies.mp h
  have hp := two_mul_half hs
  have h1 : (q + 1) * 2 ^ s ≤ N / 2 ^ s * 2 ^ s := Nat.mul_le_mul_right _ hq
  have h2 : N / 2 ^ s * 2 ^ s ≤ N := Nat.div_mul_le_self ..
  rw [Nat.add_mul, Nat.one_mul] at h1
  omega

/-- The group and the place inside the half group of a touched position. -/
theorem touches_iff {N s : Nat} (hs : 1 ≤ s) {gj : Nat × Nat} (h : gj ∈ butterflies N s) (p : Nat) :
    touches s gj p ↔ gj.1 = p / 2 ^ s * 2 ^ s ∧ gj.2 = p % 2 ^ (s - 1) := by
  obtain ⟨q, hq, hg, hj⟩ := mem_butterflies.mp h
  have hp := two_mul_half hs
  have hpos : 0 < 2 ^ (s - 1) := Nat.two_pow_pos _
  unfold touches
  rw [hg]
  generalize 2 ^ (s - 1) = w at *
  rw [hp]
  constructor
  · rintro (rfl | rfl)
    · have e : q * (2 * w) + gj.2 = gj.2 + 2 * w * q := by ring
      have e' : q * (2 * w) + gj.2 = gj.2 + w * (2 * q) := by ring
      constructor
      · rw [e, Nat.add_mul_div_left _ _ (by omega), Nat.div_eq_of_lt (by omega), Nat.zero_add]
      · rw [e', Nat.add_mul_mod_self_left, Nat.mod_eq_of_lt hj]
    · have e : q * (2 * w) + gj.2 + w = (gj.2 + w) + 2 * w * q := by ring
      have e' : q * (2 * w) + gj.2 + w = gj.2 + w * (2 * q + 1) := by ring
      constructor
      · rw [e, Nat.add_mul_div_left _ _ (by omega), Nat.div_eq_of_lt (by omega), Nat.zero_add]
      · rw [e', Nat.add_mul_mod_self_left, Nat.mod_eq_of_lt hj]
  · rintro ⟨h1, h2⟩
    have h3 : p = 2 * w * (p / (2 * w)) + p % (2 * w) := (Nat.div_add_mod ..).symm
    have h4 : p % (2 * w) % w = p % w := Nat.mod_mul_left_mod ..
    have h5 : p % (2 * w) < 2 * w := Nat.mod_lt _ (by omega)
    have h6 : p / (2 * w) * (2 * w) = 2 * w * (p / (2 * w)) := Nat.mul_comm ..
    rw [h1, h2, h6, ← h4]
    rcases Nat.lt_or_ge (p % (2 * w)) w with hc | hc
    · left
      rw [Nat.mod_eq_of_lt hc]
      exact h3
    · right
      rw [Nat.mod_eq_sub_mod hc, Nat.mod_eq_of_lt (by omega)]
      omega

theorem butterflies_disjoint {N s : Nat} (hs : 1 ≤ s) :
    (butterflies N s).Pairwise fun a b => ∀ p, ¬ (touches s a p ∧ touches s b p) := by
  have hnd : (butterflies N s).Nodup := by
    rw [butterflies, List.nodup_flatMap]
    refine ⟨fun q _ => (List.nodup_range).map (fun a b hab => by simpa using hab), ?_⟩
    refine List.nodup_range.imp_of_mem ?_
    intro a b _ _ hab x hx hy
    simp only [List.mem_map, List.mem_range] at hx hy
    obtain ⟨j, _, rfl⟩ := hx
    obtain ⟨k, _, he⟩ := hy
    have : b * 2 ^ s = a * 2 ^ s := by simpa using congrArg Prod.fst he
    exact hab (Nat.eq_of_mul_eq_mul_right (Nat.two_pow_pos s) this).symm
  refine hnd.imp_of_mem ?_
  intro a b ha hb hab p ⟨h1, h2⟩
  rw [touches_iff hs ha] at h1
  rw [touches_iff hs hb] at h2
  exact hab (Prod.ext (h1.1.trans h2.1.symm) (h1.2.trans h2.2.symm))

/-- One pass, by position: every position below `N` gets the upper or the lower result of its own
butterfly, computed from the samples before the pass (45_transform_engine R179). -/
theorem readSample_pass {m : Memory} (h : m.wf) (inv : Bool) {N s : Nat} (hs : 1 ≤ s)
    (hN : N ≤ Config.nMax) (hdvd : 2 ^ s ∣ N) {p : Nat} (hp : p < N) :
    (pass inv N m s).readSample p =
      let base := p / 2 ^ s * 2 ^ s
      let j := p % 2 ^ (s - 1)
      let r := bfly (m.readSample (base + j)) (m.readSample (base + j + 2 ^ (s - 1)))
        (twiddle s j inv)
      if p = base + j then ⟨stored r.1.re, stored r.1.im⟩
      else ⟨stored r.2.re, stored r.2.im⟩ := by
  have hmem : (p / 2 ^ s * 2 ^ s, p % 2 ^ (s - 1)) ∈ butterflies N s :=
    mem_butterflies.mpr ⟨p / 2 ^ s, Nat.div_lt_div_of_lt_of_dvd hdvd hp, rfl,
      Nat.mod_lt _ (Nat.two_pow_pos _)⟩
  have ht : touches s (p / 2 ^ s * 2 ^ s, p % 2 ^ (s - 1)) p := (touches_iff hs hmem p).mpr ⟨rfl, rfl⟩
  have hlt : ∀ gj ∈ butterflies N s, gj.1 + gj.2 + 2 ^ (s - 1) < Config.nMax :=
    fun gj hgj => Nat.lt_of_lt_of_le (butterflies_in_range hs hgj) hN
  rw [pass, butterflies_touched h inv s _ hlt (butterflies_disjoint hs) _ hmem p ht,
    readSample_butterflyAt h inv s _ (hlt _ hmem)]
  have hpos : 0 < 2 ^ (s - 1) := Nat.two_pow_pos _
  have ht' : p = p / 2 ^ s * 2 ^ s + p % 2 ^ (s - 1) ∨
      p = p / 2 ^ s * 2 ^ s + p % 2 ^ (s - 1) + 2 ^ (s - 1) := ht
  dsimp only
  generalize 2 ^ (s - 1) = w at *
  generalize p / 2 ^ s * 2 ^ s + p % w = lo at *
  rcases ht' with e | e
  · rw [if_neg (by omega), if_pos e, if_pos e]
  · rw [if_pos e, if_neg (by omega)]

/-- A pass leaves every position from `N` on (10_state R34 item 5). -/
theorem readSample_pass_above {m : Memory} (h : m.wf) (inv : Bool) {N s : Nat} (hs : 1 ≤ s)
    (hN : N ≤ Config.nMax) {p : Nat} (hp : N ≤ p) :
    (pass inv N m s).readSample p = m.readSample p := by
  refine butterflies_untouched h inv s _
    (fun gj hgj => Nat.lt_of_lt_of_le (butterflies_in_range hs hgj) hN) p ?_
  intro gj hgj ht
  have := butterflies_in_range hs hgj
  unfold touches at ht
  generalize 2 ^ (s - 1) = w at *
  omega

/-! ## Bit reversal (42_permutation_table R120) -/

/-- The lowest bit of an `n + 1`-bit index becomes the highest of its reversal. -/
theorem bitrev_succ (i n : Nat) : bitrev i (n + 1) = i % 2 * 2 ^ n + bitrev (i / 2) n := by
  have h : ∀ b, i / 2 ^ (b + 1) = i / 2 / 2 ^ b := fun b => by
    rw [Nat.pow_succ', Nat.div_div_eq_div_mul]
  have h' : ∀ b, n + 1 - 1 - (b + 1) = n - 1 - b := by omega
  simp only [bitrev, List.range_succ_eq_map, List.map_cons, List.map_map, List.sum_cons,
    Function.comp_def, Nat.succ_eq_add_one, h, h']
  simp

theorem bitrev_lt_two_pow (i n : Nat) : bitrev i n < 2 ^ n := by
  induction n generalizing i with
  | zero => simp [bitrev]
  | succ n ih =>
    have h := ih (i / 2)
    have h2 : i % 2 * 2 ^ n ≤ 1 * 2 ^ n := Nat.mul_le_mul_right _ (by omega)
    rw [bitrev_succ, Nat.pow_succ']
    omega

/-! ## The scaler (45_transform_engine R182) -/

theorem readSample_scaleAll {m : Memory} (h : m.wf) {N : Nat} (hN : N ≤ Config.nMax) (n p : Nat) :
    (scaleAll N n m).readSample p =
      if p < N then
        ⟨stored (scaleN (m.readSample p).re n), stored (scaleN (m.readSample p).im n)⟩
      else m.readSample p := by
  unfold scaleAll
  induction N generalizing p with
  | zero => simp
  | succ N ih =>
    have hwf : ((List.range N).foldl (scaleAt n) m).wf :=
      foldl_keeps Memory.wf _ (fun _ _ hm => Memory.writeSample_wf hm _ _) _ _ h
    have hlt : N < Config.nMax := hN
    rw [List.range_succ, List.foldl_append, List.foldl_cons, List.foldl_nil, scaleAt,
      Memory.readSample_writeSample hwf, ih (by omega) N, ih (by omega) p]
    by_cases e : N = p
    · subst e
      simp only [hlt, Nat.lt_irrefl, Nat.lt_succ_self, and_self, if_true, if_false]
    · have e' : p < N + 1 ↔ p < N := by omega
      simp only [e, e', false_and, if_false]

end Sys2Proof.Machine
end

