-- ==== Sys2Proof/Laws/PerInstr.lean ====
section
/-! SUPPORT. Statements made for every command, one lemma per constructor. -/

namespace Sys2Proof.Laws

/-- A well-formed command is encoded as a request that is framed as 30_encoding R73 says. -/
def EncodeFramed.Statement (i : Instr) : Prop := i.wellFormed = true → (encode i).framed = true

theorem EncodeFramed.construct (length : BitVec 32) :
    EncodeFramed.Statement (.construct length) := by
  simp [EncodeFramed.Statement, encode, Request.framed, payloadBeats]

theorem EncodeFramed.destroy : EncodeFramed.Statement .destroy := by
  simp [EncodeFramed.Statement, encode, Request.framed, payloadBeats]

theorem EncodeFramed.forward (cnt : BitVec 32) (payload : List Sample) :
    EncodeFramed.Statement (.forward cnt payload) := by
  simp [EncodeFramed.Statement, encode, Request.framed, payloadBeats, Instr.wellFormed]

theorem EncodeFramed.inverse (cnt : BitVec 32) (payload : List Sample) :
    EncodeFramed.Statement (.inverse cnt payload) := by
  simp [EncodeFramed.Statement, encode, Request.framed, payloadBeats, Instr.wellFormed]

theorem EncodeFramed.resultRe (index : BitVec 32) : EncodeFramed.Statement (.resultRe index) := by
  simp [EncodeFramed.Statement, encode, Request.framed, payloadBeats]

theorem EncodeFramed.resultIm (index : BitVec 32) : EncodeFramed.Statement (.resultIm index) := by
  simp [EncodeFramed.Statement, encode, Request.framed, payloadBeats]

theorem EncodeFramed.ispow2 (x : BitVec 16) : EncodeFramed.Statement (.ispow2 x) := by
  simp [EncodeFramed.Statement, encode, Request.framed, payloadBeats]

theorem EncodeFramed.isqrt (x : BitVec 32) : EncodeFramed.Statement (.isqrt x) := by
  simp [EncodeFramed.Statement, encode, Request.framed, payloadBeats]

end Sys2Proof.Laws
end

