-- ==== Sys2Proof/Laws/State.lean ====
section
/-! SUPPORT. One lemma per field per update of the state, each true by definition, so that no proof
unfolds a record update; and the ends of a command as equations. -/

namespace Sys2Proof.Machine

/-! ## accept -/

@[simp] theorem State.accept_constructed (s : State) : (s.accept).constructed = s.constructed := rfl

@[simp] theorem State.accept_length (s : State) : (s.accept).length = s.length := rfl

@[simp] theorem State.accept_log2n (s : State) : (s.accept).log2n = s.log2n := rfl

@[simp] theorem State.accept_domain (s : State) : (s.accept).domain = s.domain := rfl

@[simp] theorem State.accept_mem (s : State) : (s.accept).mem = s.mem := rfl

@[simp] theorem State.accept_response (s : State) : (s.accept).response = s.response := rfl

@[simp] theorem State.accept_inputs (s : State) : (s.accept).inputs = s.inputs.tail := rfl

@[simp] theorem State.accept_draws (s : State) : (s.accept).draws = s.draws := rfl

/-! ## offer -/

@[simp] theorem State.offer_constructed (s : State) (x : HostInput) : (s.offer x).constructed = s.constructed := rfl

@[simp] theorem State.offer_length (s : State) (x : HostInput) : (s.offer x).length = s.length := rfl

@[simp] theorem State.offer_log2n (s : State) (x : HostInput) : (s.offer x).log2n = s.log2n := rfl

@[simp] theorem State.offer_domain (s : State) (x : HostInput) : (s.offer x).domain = s.domain := rfl

@[simp] theorem State.offer_mem (s : State) (x : HostInput) : (s.offer x).mem = s.mem := rfl

@[simp] theorem State.offer_response (s : State) (x : HostInput) : (s.offer x).response = s.response := rfl

@[simp] theorem State.offer_inputs (s : State) (x : HostInput) : (s.offer x).inputs = s.inputs ++ [x] := rfl

@[simp] theorem State.offer_draws (s : State) (x : HostInput) : (s.offer x).draws = s.draws := rfl

/-! ## withFetchWord -/

@[simp] theorem State.withFetchWord_constructed (s : State) (nbits w : Nat) : (s.withFetchWord nbits w).constructed = s.constructed := rfl

@[simp] theorem State.withFetchWord_length (s : State) (nbits w : Nat) : (s.withFetchWord nbits w).length = s.length := rfl

@[simp] theorem State.withFetchWord_log2n (s : State) (nbits w : Nat) : (s.withFetchWord nbits w).log2n = s.log2n := rfl

@[simp] theorem State.withFetchWord_domain (s : State) (nbits w : Nat) : (s.withFetchWord nbits w).domain = s.domain := rfl

@[simp] theorem State.withFetchWord_mem (s : State) (nbits w : Nat) : (s.withFetchWord nbits w).mem = s.mem := rfl

@[simp] theorem State.withFetchWord_response (s : State) (nbits w : Nat) : (s.withFetchWord nbits w).response = s.response := rfl

@[simp] theorem State.withFetchWord_inputs (s : State) (nbits w : Nat) : (s.withFetchWord nbits w).inputs = .command (requestOfBits nbits w) :: s.inputs := rfl

@[simp] theorem State.withFetchWord_draws (s : State) (nbits w : Nat) : (s.withFetchWord nbits w).draws = s.draws := rfl

/-! ## clearControl -/

@[simp] theorem clearControl_constructed (s : State) : (clearControl s).constructed = false := rfl

@[simp] theorem clearControl_length (s : State) : (clearControl s).length = 0#16 := rfl

@[simp] theorem clearControl_log2n (s : State) : (clearControl s).log2n = 0#4 := rfl

@[simp] theorem clearControl_domain (s : State) : (clearControl s).domain = .time := rfl

@[simp] theorem clearControl_mem (s : State) : (clearControl s).mem = s.mem := rfl

@[simp] theorem clearControl_response (s : State) : (clearControl s).response = s.response := rfl

@[simp] theorem clearControl_inputs (s : State) : (clearControl s).inputs = s.inputs := rfl

@[simp] theorem clearControl_draws (s : State) : (clearControl s).draws = s.draws := rfl

/-! ## resetUnit -/

@[simp] theorem resetUnit_constructed (s : State) : (resetUnit s).constructed = false := rfl

@[simp] theorem resetUnit_length (s : State) : (resetUnit s).length = 0#16 := rfl

@[simp] theorem resetUnit_log2n (s : State) : (resetUnit s).log2n = 0#4 := rfl

@[simp] theorem resetUnit_domain (s : State) : (resetUnit s).domain = .time := rfl

@[simp] theorem resetUnit_mem (s : State) : (resetUnit s).mem = s.mem.forget s.draws Config.nMax := rfl

@[simp] theorem resetUnit_response (s : State) : (resetUnit s).response = none := rfl

@[simp] theorem resetUnit_inputs (s : State) : (resetUnit s).inputs = s.inputs := rfl

@[simp] theorem resetUnit_draws (s : State) : (resetUnit s).draws = s.draws + 1 := rfl

/-! ## construct -/

@[simp] theorem construct_constructed (L : BitVec 32) (s : State) : (construct L s).constructed = true := rfl

@[simp] theorem construct_length (L : BitVec 32) (s : State) : (construct L s).length = L.extractLsb' 0 16 := rfl

@[simp] theorem construct_log2n (L : BitVec 32) (s : State) : (construct L s).log2n = BitVec.ofNat 4 (Nat.log2 L.toNat) := rfl

@[simp] theorem construct_domain (L : BitVec 32) (s : State) : (construct L s).domain = .time := rfl

@[simp] theorem construct_mem (L : BitVec 32) (s : State) : (construct L s).mem = (buildTable L.toNat s.mem).drawBuffers s.draws L.toNat := rfl

@[simp] theorem construct_response (L : BitVec 32) (s : State) : (construct L s).response = s.response := rfl

@[simp] theorem construct_inputs (L : BitVec 32) (s : State) : (construct L s).inputs = s.inputs := rfl

@[simp] theorem construct_draws (L : BitVec 32) (s : State) : (construct L s).draws = s.draws + 1 := rfl

/-! ## destroy -/

@[simp] theorem destroy_constructed (s : State) : (destroy s).constructed = false := rfl

@[simp] theorem destroy_length (s : State) : (destroy s).length = 0#16 := rfl

@[simp] theorem destroy_log2n (s : State) : (destroy s).log2n = 0#4 := rfl

@[simp] theorem destroy_domain (s : State) : (destroy s).domain = .time := rfl

@[simp] theorem destroy_mem (s : State) : (destroy s).mem = s.mem.forget s.draws s.length.toNat := rfl

@[simp] theorem destroy_response (s : State) : (destroy s).response = s.response := rfl

@[simp] theorem destroy_inputs (s : State) : (destroy s).inputs = s.inputs := rfl

@[simp] theorem destroy_draws (s : State) : (destroy s).draws = s.draws + 1 := rfl

/-! ## Ends of a command -/

/-- A response changes nothing but the response port (30_encoding R74). -/
theorem respond_eq_next {data : BitVec 64} {s t : State} :
    respond data s = .next t ↔ t = { s with response := some ⟨.ok, data⟩ } := by
  simp [respond, eq_comm]

/-- A rejection changes nothing but the response port (60_exceptions R221). -/
theorem reject_eq_next {code : Status} {s t : State} :
    reject code s = .next t ↔ t = { s with response := some ⟨code, 0#64⟩ } := by
  simp [reject, eq_comm]

end Sys2Proof.Machine
end

