-- ==== Sys2Proof/Laws/Step.lean ====
section
/-! SUPPORT. Everything each meaning can answer, with the guards that lead there, and what a step
does: proofs about steps case on these and do not unfold the meanings again. -/

namespace Sys2Proof.Machine

/-- The response port after `s`, the rest of the state as it was. -/
def State.answer (s : State) (code : Status) (data : BitVec 64) : State :=
  { s with response := some ⟨code, data⟩ }

@[simp] theorem answer_response (s : State) (code : Status) (data : BitVec 64) :
    (s.answer code data).response = some ⟨code, data⟩ := rfl

@[simp] theorem answer_constructed (s : State) (code : Status) (data : BitVec 64) :
    (s.answer code data).constructed = s.constructed := rfl

@[simp] theorem answer_length (s : State) (code : Status) (data : BitVec 64) :
    (s.answer code data).length = s.length := rfl

@[simp] theorem answer_log2n (s : State) (code : Status) (data : BitVec 64) :
    (s.answer code data).log2n = s.log2n := rfl

@[simp] theorem answer_domain (s : State) (code : Status) (data : BitVec 64) :
    (s.answer code data).domain = s.domain := rfl

@[simp] theorem answer_mem (s : State) (code : Status) (data : BitVec 64) :
    (s.answer code data).mem = s.mem := rfl

@[simp] theorem answer_inputs (s : State) (code : Status) (data : BitVec 64) :
    (s.answer code data).inputs = s.inputs := rfl

@[simp] theorem answer_draws (s : State) (code : Status) (data : BitVec 64) :
    (s.answer code data).draws = s.draws := rfl

theorem respond_eq (data : BitVec 64) (s : State) : respond data s = .next (s.answer .ok data) := rfl

theorem reject_eq (code : Status) (s : State) : reject code s = .next (s.answer code 0#64) := rfl

/-- What an accepted transform leaves, before its response (45_transform_engine R175). -/
def State.transformed (inv : Bool) (payload : List Sample) (s : State) : State :=
  { s with
    mem := transform inv s.length.toNat s.log2n.toNat payload s.mem
    domain := domainAfter inv }

/-- CONSTRUCT answers one of three next states. -/
theorem execConstruct_cases (L : BitVec 32) (s : State) :
    (s.constructed = true ∧ execConstruct L s = .next (s.answer .errState 0#64)) ∨
    (s.constructed = false ∧ validLength L = true ∧
      execConstruct L s = .next ((construct L s).answer .ok 0#64)) ∨
    (s.constructed = false ∧ validLength L = false ∧
      execConstruct L s = .next (s.answer .errSize 0#64)) := by
  unfold execConstruct
  cases hc : s.constructed <;> cases hv : validLength L <;> simp [respond_eq, reject_eq]

/-- DESTROY answers one of two next states. -/
theorem execDestroy_cases (s : State) :
    (s.constructed = true ∧ execDestroy s = .next ((destroy s).answer .ok 0#64)) ∨
    (s.constructed = false ∧ execDestroy s = .next ((clearControl s).answer .ok 0#64)) := by
  unfold execDestroy
  cases hc : s.constructed <;> simp [respond_eq]

/-- A transform answers one of three next states or the one fault. -/
theorem transformCommand_cases (inv : Bool) (cnt : BitVec 32) (payload : List Sample) (s : State) :
    (s.constructed = false ∧ transformCommand inv cnt payload s = .next (s.answer .errState 0#64)) ∨
    (s.constructed = true ∧ (cnt.toNat ≠ s.length.toNat ∨ payload.length ≠ s.length.toNat) ∧
      transformCommand inv cnt payload s = .next (s.answer .errLen 0#64)) ∨
    (s.constructed = true ∧ cnt.toNat = s.length.toNat ∧ payload.length = s.length.toNat ∧
      transformInBounds s.length.toNat s.mem = true ∧
      transformCommand inv cnt payload s = .next ((s.transformed inv payload).answer .ok 0#64)) ∨
    (s.constructed = true ∧ cnt.toNat = s.length.toNat ∧ payload.length = s.length.toNat ∧
      transformInBounds s.length.toNat s.mem = false ∧
      transformCommand inv cnt payload s = .fault .noSuchWord) := by
  unfold transformCommand
  cases hc : s.constructed
  · simp [reject_eq]
  · by_cases h1 : cnt.toNat = s.length.toNat
    · by_cases h2 : payload.length = s.length.toNat
      · cases h3 : transformInBounds s.length.toNat s.mem
        · simp [h1, h2]
        · simp [h1, h2, respond_eq, State.transformed, State.answer, hc]
      · simp [h1, h2, reject_eq]
    · simp [h1, reject_eq]

/-- A result read answers one of three next states or the one fault. -/
theorem readResult_cases (word : BufWord) (index : BitVec 32) (s : State) :
    (s.constructed = false ∧ readResult word index s = .next (s.answer .errState 0#64)) ∨
    (s.constructed = true ∧ s.length.toNat ≤ index.toNat ∧
      readResult word index s = .next (s.answer .errIndex 0#64)) ∨
    (s.constructed = true ∧ index.toNat < s.length.toNat ∧ index.toNat < Config.nMax ∧
      readResult word index s = .next (s.answer .ok word)) ∨
    (s.constructed = true ∧ index.toNat < s.length.toNat ∧ Config.nMax ≤ index.toNat ∧
      readResult word index s = .fault .noSuchWord) := by
  unfold readResult
  cases hc : s.constructed
  · simp [reject_eq]
  · by_cases h1 : s.length.toNat ≤ index.toNat
    · simp [h1, reject_eq]
    · have h1' : index.toNat < s.length.toNat := by omega
      by_cases h2 : index.toNat < Config.nMax
      · have h3 : hasWord index.toNat = true := by simp [hasWord, h2]
        simp only [Bool.not_true, Bool.false_eq_true, if_false, h1, h3, if_true, respond_eq]
        simp [h1', h2]
      · have h3 : hasWord index.toNat = false := by simp [hasWord, h2]
        have h4 : Config.nMax ≤ index.toNat := by omega
        simp only [Bool.not_true, Bool.false_eq_true, if_false, h1, h3]
        simp [h1', h4]

/-! ## One step -/

theorem step_idle {s : State} (h : s.inputs = []) : step s = .next s := by
  simp [step, idle, h]

theorem step_reset {s : State} {rest : List HostInput} (h : s.inputs = .reset :: rest) :
    step s = .next (resetUnit s.accept) := by
  simp [step, runInput, h]

theorem step_of_command {s : State} {r : Request} {i : Instr} {rest : List HostInput}
    (h : s.inputs = .command r :: rest) (hd : decode r = .command i) : step s = exec i s.accept := by
  simp [step, runInput, runCommand, h, hd]

theorem step_of_reserved {s : State} {r : Request} {why : ReservedKind} {rest : List HostInput}
    (h : s.inputs = .command r :: rest) (hd : decode r = .reserved why) :
    step s = .next (s.accept.answer .errOp 0#64) := by
  simp [step, runInput, runCommand, h, hd, reject_eq]

/-- Everything a step can be: idle, a reset, a reserved word rejected, or a command run. -/
theorem step_cases (s : State) :
    (s.inputs = [] ∧ step s = .next s) ∨
    (∃ rest, s.inputs = .reset :: rest ∧ step s = .next (resetUnit s.accept)) ∨
    (∃ r rest why, s.inputs = .command r :: rest ∧ decode r = .reserved why ∧
      step s = .next (s.accept.answer .errOp 0#64)) ∨
    (∃ r rest i, s.inputs = .command r :: rest ∧ decode r = .command i ∧
      step s = exec i s.accept) := by
  rcases h : s.inputs with _ | ⟨⟨r⟩ | _, rest⟩
  · exact .inl ⟨rfl, step_idle h⟩
  · rcases hd : decode r with i | why
    · exact .inr (.inr (.inr ⟨r, rest, i, rfl, hd, step_of_command h hd⟩))
    · exact .inr (.inr (.inl ⟨r, rest, why, rfl, hd, step_of_reserved h hd⟩))
  · exact .inr (.inl ⟨rest, rfl, step_reset h⟩)

end Sys2Proof.Machine
end

