-- ==== Sys2Proof/Tests/Slice0.lean ====
section
/-! SUPPORT. Tests whose expected values are the spec's own (95_test_vectors and the rules named at
each), and one witness per obligation with hypotheses: a state and operands that meet them all. -/

namespace Sys2Proof.Tests

open Sys2Proof.Machine

/-! ## Small states -/

/-- Buffers of zeros and the table of length `2^k`. -/
def demoMemory (k : Nat) : Memory :=
  ⟨tabulate (fun i => BitVec.ofNat 16 (bitrev i k)) Config.nMax 0,
   List.replicate Config.nMax 0#64, List.replicate Config.nMax 0#64⟩

/-- A unit that holds an instance of length `2^k`. -/
def demo (k : Nat) : State :=
  { State.reset with
    constructed := true, length := BitVec.ofNat 16 (2 ^ k), log2n := BitVec.ofNat 4 k
    mem := demoMemory k }

/-- A payload of `n` samples `(1, -1)`. -/
def demoPayload (n : Nat) : List Sample := List.replicate n ⟨1#32, BitVec.ofInt 32 (-1)⟩

/-- The samples a meaning leaves below `N`. -/
def samplesAfter (N : Nat) (o : Host.Outcome State Fault Refusal) : Option (List Cplx) :=
  (nextState? o).map fun t => (List.range N).map t.mem.readSample

/-- The response word a meaning leaves. -/
def wordAfter (o : Host.Outcome State Fault Refusal) : Option (BitVec 68) :=
  (nextState? o).bind fun t => t.response.map Response.word

/-- Samples from the two lists a test vector prints. -/
def complexes (re im : List Int) : List Cplx := (re.zip im).map fun x => ⟨x.1, x.2⟩

/-! ## Decoding: words written out from 30_encoding R71, R76 -/

theorem test_decode_construct :
    decode ⟨0b0000000100000000000000001000000000000000#40, []⟩ = .command (.construct 32768#32) := by
  decide

theorem test_decode_destroy :
    decode ⟨0b0000001000000000000000000000000000000000#40, []⟩ = .command .destroy := by decide

theorem test_decode_forward :
    decode ⟨0b0000001100000000000000000000000000000001#40, [0x80000000FFFFFFFF#64]⟩ =
      .command (.forward 1#32 [⟨BitVec.ofInt 32 (-1), BitVec.ofInt 32 (-2147483648)⟩]) := by decide

theorem test_decode_inverse :
    decode ⟨0b0000010000000000000000000000000000000001#40, [0x0000000200000001#64]⟩ =
      .command (.inverse 1#32 [⟨1#32, 2#32⟩]) := by decide

theorem test_decode_resultRe :
    decode ⟨0b0000010110000000000000000000000000000001#40, []⟩ = .command (.resultRe 0x80000001#32) := by
  decide

theorem test_decode_resultIm :
    decode ⟨0b0000011000000000000000000000000000000111#40, []⟩ = .command (.resultIm 7#32) := by decide

theorem test_decode_ispow2 :
    decode ⟨0b0000011100000000000000001000000000000001#40, []⟩ = .command (.ispow2 0x8001#16) := by
  decide

theorem test_decode_isqrt :
    decode ⟨0b0000100010000000000000000000000000000000#40, []⟩ = .command (.isqrt 0x80000000#32) := by
  decide

/-- 95_test_vectors P3, rows 17 to 21. -/
theorem test_decode_reserved :
    decode ⟨0x0000000000#40, []⟩ = .reserved .opcode ∧
    decode ⟨0x0900000000#40, []⟩ = .reserved .opcode ∧
    decode ⟨0xFF12345678#40, []⟩ = .reserved .opcode ∧
    decode ⟨0x0200000001#40, []⟩ = .reserved .argBits ∧
    decode ⟨0x0700010000#40, []⟩ = .reserved .argBits := by decide

/-- Only the opcodes `0x03` and `0x04` announce beats (30_encoding R73). -/
theorem test_payload_beats :
    payloadBeats 0x0300000005#40 = 5 ∧ payloadBeats 0x04FFFFFFFF#40 = 0xFFFFFFFF ∧
    payloadBeats 0x0300000000#40 = 0 ∧ payloadBeats 0x0100000005#40 = 0 ∧
    payloadBeats 0x0900000005#40 = 0 := by decide

/-! ## WellFormed: ill-formed terms are refused -/

theorem test_ill_formed_forward_short : Instr.wellFormed (.forward 3#32 (demoPayload 2)) = false := by
  decide

theorem test_ill_formed_forward_long : Instr.wellFormed (.forward 0#32 (demoPayload 1)) = false := by
  decide

theorem test_ill_formed_inverse_short : Instr.wellFormed (.inverse 1#32 []) = false := by decide

theorem test_ill_formed_inverse_long : Instr.wellFormed (.inverse 1#32 (demoPayload 2)) = false := by
  decide

/-! ## Internal blocks -/

/-- 95_test_vectors 2.1: the values `valid_length` takes. -/
theorem test_valid_length :
    ([2, 4, 256, 32768].all fun L => validLength (BitVec.ofNat 32 L)) = true ∧
    ([0, 1, 3, 6, 65535, 65536, 65544, 0x80000000, 0xFFFFFFFF].any fun L =>
      validLength (BitVec.ofNat 32 L)) = false := by decide

/-- 95_test_vectors 2.2: final `root` and `rem`. -/
theorem test_sqrt_registers :
    sqrtRun 99#32 = ⟨18#18, 9#16⟩ ∧ sqrtRun 0x7FFFFFFF#32 = ⟨88047#18, 46340#16⟩ ∧
    sqrtRun 0xFFFFFFFF#32 = ⟨131070#18, 65535#16⟩ := by decide +kernel

/-- 42_permutation_table R126, with the builder on arrays that hold another table. -/
theorem test_builder :
    (List.range 8).map (fun i => ((buildTable 8 (demoMemory 5)).readTab i).toNat) =
      [0, 4, 2, 6, 1, 5, 3, 7] := by decide +kernel

/-- 95_test_vectors 2.3: the permuting load at length 8. -/
theorem test_permuting_load :
    (List.range 8).map (fun i =>
        ((permuteLoad (asmSamples [10, 11, 12, 13, 14, 15, 16, 17] (List.replicate 8 0))
          (demoMemory 3)).readSample i).re) =
      [10, 14, 12, 16, 11, 15, 13, 17] := by decide +kernel

/-- The sum and the exclusive or of all the words of the ROM (43_twiddle_rom R146). -/
theorem test_rom_checksums :
    (List.range 8193).foldl (fun a i => a + qrom i) 0 = 5600303591207 ∧
    (List.range 8193).foldl (fun a i => a ^^^ qrom i) 0 = 1794228595 := by decide +kernel

/-- 43_twiddle_rom R142 and 95_test_vectors 2.3: spot values of the ROM, every piece boundary type. -/
theorem test_rom_words :
    [0, 1, 512, 2048, 2560, 4096, 5632, 6144, 7680, 8191, 8192].map qrom =
      [1073741824, 1073741804, 1068571464, 992008094, 946955747, 759250125, 506158392, 410903207,
        105245103, 205887, 0] := by decide +kernel

/-- 95_test_vectors 2.3: twiddles of passes 3, 4 and 15. -/
theorem test_twiddles :
    twiddle 3 3 false = ⟨-759250125, -759250125⟩ ∧ twiddle 4 5 true = ⟨-410903207, 992008094⟩ ∧
    twiddle 15 8193 false = ⟨-205887, -1073741804⟩ ∧
    twiddle 15 16383 true = ⟨-1073741804, 205887⟩ := by decide +kernel

/-- 95_test_vectors 2.4: ties and near ties of the rounding shift. -/
theorem test_rounding_shift :
    [rhazShr 7 0, rhazShr 1 1, rhazShr (-1) 1, rhazShr 4 3, rhazShr (-4) 3, rhazShr 16383 15,
      rhazShr (-16384) 15, rhazShr (2 ^ 29 - 1) 30, rhazShr (-(2 ^ 29)) 30] =
      [7, 1, -1, 1, -1, 0, -1, 0, -1] := by decide

/-- 44_complex_arith R162, rows 8, 10 and 13. -/
theorem test_butterflies :
    bfly ⟨0, 0⟩ ⟨536870912, 0⟩ ⟨759250125, -759250125⟩ =
      (⟨379625063, -379625063⟩, ⟨-379625063, 379625063⟩) ∧
    bfly ⟨10, 20⟩ ⟨1000, -2000⟩ ⟨410903207, -992008094⟩ = (⟨-1455, -1669⟩, ⟨1475, 1709⟩) ∧
    bfly ⟨2147483647, -2147483648⟩ ⟨-2147483648, 2147483647⟩ ⟨-759250125, -759250125⟩ =
      (⟨5184484146, -2147483647⟩, ⟨-889516852, -2147483649⟩) := by decide

/-! ## One step per command -/

/-- 95_test_vectors 2.6: `CONSTRUCT 2` from reset. -/
theorem test_construct :
    (nextState? (exec (.construct 2#32) State.reset)).map
        (fun t => (t.constructed, t.length, t.log2n, t.domain,
          (List.range 2).map fun i => (t.mem.readTab i).toNat)) =
      some (true, 2#16, 1#4, .time, [0, 1]) := by decide +kernel

/-- 95_test_vectors 2.6: state is checked before size, and size sees all of `arg`. -/
theorem test_construct_rejected :
    wordAfter (exec (.construct 6#32) (demo 2)) = some 0x40000000000000000#68 ∧
    wordAfter (exec (.construct 65544#32) State.reset) = some 0x10000000000000000#68 := by
  decide +kernel

/-- 95_test_vectors 2.6: DESTROY of an instance, and the domain it leaves (45_transform_engine R174). -/
theorem test_destroy :
    (nextState? (exec .destroy { demo 2 with domain := .freq })).map
        (fun t => (t.constructed, t.length, t.log2n, t.domain, t.response)) =
      some (false, 0#16, 0#4, .time, some ⟨.ok, 0#64⟩) := by decide +kernel

/-- 95_test_vectors T8: a forward transform whose pass 3 rounds. -/
theorem test_forward :
    samplesAfter 8 (exec (.forward 8#32
        (asmSamples [3, -1, 4, 1, -5, 9, 2, -6] [2, 7, -1, 8, 2, -8, 1, 8])) (demo 3)) =
      some (complexes [7, 5, -25, 33, 1, 7, 9, -13] [19, 11, -9, -6, -11, -15, 17, 10]) := by
  decide +kernel

/-- 95_test_vectors T13: the extreme payload; the results need more than 32 bits. -/
theorem test_forward_extreme :
    samplesAfter 8 (exec (.forward 8#32
        (asmSamples [2147483647, -2147483648, 2147483647, -2147483648, 2147483647, -2147483648,
          2147483647, -2147483648] (List.replicate 8 (-2147483648)))) (demo 3)) =
      some (complexes [-4, 0, 0, 0, 17179869180, 0, 0, 0] [-17179869184, 0, 0, 0, 0, 0, 0, 0]) := by
  decide +kernel

/-- 95_test_vectors T2: the scaler's ties go away from zero. -/
theorem test_inverse_ties :
    samplesAfter 2 (exec (.inverse 2#32 (asmSamples [5, -3] [2, 7])) (demo 1)) =
      some (complexes [1, 4] [5, -3]) := by decide +kernel

/-- 95_test_vectors T11: the inverse of an impulse, with the conjugate twiddles. -/
theorem test_inverse_impulse :
    samplesAfter 8 (exec (.inverse 8#32
        (asmSamples [0, 1073741824, 0, 0, 0, 0, 0, 0] (List.replicate 8 0))) (demo 3)) =
      some (complexes
        [134217728, 94906266, 0, -94906266, -134217728, -94906266, 0, 94906266]
        [0, 94906266, 134217728, 94906266, 0, -94906266, -134217728, -94906266]) := by
  decide +kernel

/-- 60_exceptions R225: a wrong count leaves everything as it was. -/
theorem test_transform_wrong_count :
    (exec (.forward 3#32 (demoPayload 3)) (demo 2) =
      .next { demo 2 with response := some ⟨.errLen, 0#64⟩ }) ∧
    exec (.inverse 0#32 []) (demo 2) = .next { demo 2 with response := some ⟨.errLen, 0#64⟩ } :=
  ⟨rfl, rfl⟩

/-- 95_test_vectors T13: a response of more than 32 bits, and one index past the end. -/
theorem test_resultRe :
    wordAfter (exec (.resultRe 4#32)
        { demo 3 with mem := (demo 3).mem.writeRe 4 (BitVec.ofInt 64 17179869180) }) =
      some 0x000000003FFFFFFFC#68 ∧
    wordAfter (exec (.resultRe 8#32) (demo 3)) = some 0x20000000000000000#68 := by decide +kernel

/-- 95_test_vectors T13, and P3 row 16. -/
theorem test_resultIm :
    wordAfter (exec (.resultIm 0#32)
        { demo 3 with mem := (demo 3).mem.writeIm 0 (BitVec.ofInt 64 (-17179869184)) }) =
      some 0x0FFFFFFFC00000000#68 ∧
    wordAfter (exec (.resultIm 0xFFFFFFFF#32) (demo 3)) = some 0x20000000000000000#68 := by
  decide +kernel

/-- 95_test_vectors 2.1. -/
theorem test_ispow2 :
    ([1, 2, 16, 256, 16384, 32768].all fun x =>
      wordAfter (exec (.ispow2 (BitVec.ofNat 16 x)) State.reset) == some 1#68) = true ∧
    ([0, 3, 6, 12, 255, 257, 32767, 32769, 49152, 65535].all fun x =>
      wordAfter (exec (.ispow2 (BitVec.ofNat 16 x)) State.reset) == some 0#68) = true := by
  decide +kernel

/-- 95_test_vectors 2.2. -/
theorem test_isqrt :
    ([(3, 1), (24, 4), (65535, 255), (65536, 256), (2147395599, 46339), (2147395600, 46340),
        (4294836224, 65534), (4294836225, 65535), (4294967295, 65535)].all fun x =>
      wordAfter (exec (.isqrt (BitVec.ofNat 32 x.1)) (demo 1)) == some (BitVec.ofNat 68 x.2)) =
      true := by decide +kernel

/-- A step takes the oldest command; a reserved word is answered and leaves the rest. -/
theorem test_step_order :
    ((nextState? (step { State.reset with
        inputs := [.command ⟨0x0700000010#40, []⟩, .command ⟨0x0900000000#40, []⟩] })).map
      fun t => (t.response, t.inputs)) =
      some (some ⟨.ok, 1#64⟩, [.command ⟨0x0900000000#40, []⟩]) ∧
    ((nextState? (step { State.reset with inputs := [.command ⟨0x0900000000#40, []⟩] })).map
      fun t => (t.response, t.inputs)) = some (some ⟨.errOp, 0#64⟩, []) := by decide +kernel

/-- 30_encoding R83: the first commands of `READBACK` and of `ROUNDTRIP`. -/
theorem test_pseudo_commands :
    (readback 2).map AsmLine.instr =
      [some (.resultRe 0#32), some (.resultIm 0#32), some (.resultRe 1#32), some (.resultIm 1#32)] ∧
    ((roundtripForward [5, -3] [2, 7]).head?.bind AsmLine.instr) =
      some (.forward 2#32 [⟨5#32, 2#32⟩, ⟨BitVec.ofInt 32 (-3), 7#32⟩]) ∧
    roundtripInverse [17179869180] [0] = none := by decide

/-! ## Witnesses: states and operands that meet the hypotheses of each obligation -/

theorem demoMemory_wf (k : Nat) : (demoMemory k).wf := by simp [Memory.wf, demoMemory]

theorem demoMemory_readTab {k i : Nat} (hk : k ≤ 15) (hi : i < 2 ^ k) :
    ((demoMemory k).readTab i).toNat = bitrev i k := by
  have h : (2 : Nat) ^ k ≤ 2 ^ 15 := Nat.pow_le_pow_right (by omega) hk
  have hb := bitrev_lt_two_pow i k
  have hn : i < Config.nMax := by rw [nMax_eq]; omega
  rw [demoMemory, Memory.readTab, getD_tabulate, if_pos hn, Nat.zero_add, BitVec.toNat_ofNat]
  omega

theorem demo_length {k : Nat} (hk : k ≤ 15) : (demo k).length.toNat = 2 ^ k := by
  have h : (2 : Nat) ^ k ≤ 2 ^ 15 := Nat.pow_le_pow_right (by omega) hk
  show (BitVec.ofNat 16 (2 ^ k)).toNat = 2 ^ k
  rw [BitVec.toNat_ofNat, Nat.mod_eq_of_lt (by omega)]

theorem demo_log2n {k : Nat} (hk : k ≤ 15) : (demo k).log2n.toNat = k := by
  show (BitVec.ofNat 4 k).toNat = k
  rw [BitVec.toNat_ofNat]
  omega

/-- Every legal length has a state that meets the invariants, the shortest and the longest among them. -/
theorem demo_inv {k : Nat} (h1 : 1 ≤ k) (hk : k ≤ 15) : (demo k).Inv where
  mem := demoMemory_wf k
  legal := fun _ => by
    unfold State.lengthLegal
    rw [demo_length hk, demo_log2n hk]
    exact ⟨h1, rfl⟩
  table := fun _ i hi => by
    rw [demo_length hk] at hi
    rw [demo_log2n hk]
    exact demoMemory_readTab hk hi
  clear := by simp [demo]

theorem witness_DecodeInvertsEncode :
    Instr.wellFormed (.forward 2#32 (demoPayload 2)) = true ∧
    Instr.wellFormed (.inverse 0#32 []) = true ∧ Instr.wellFormed .destroy = true := by decide

theorem witness_EncodeInvertsDecode :
    Request.framed ⟨0x0300000001#40, [0xFFFFFFFF80000000#64]⟩ = true ∧
    decode ⟨0x0300000001#40, [0xFFFFFFFF80000000#64]⟩ =
      .command (.forward 1#32 [⟨0x80000000#32, 0xFFFFFFFF#32⟩]) := by decide

theorem witness_OneOpcodeRowPerWord :
    decode ⟨0x070000FFFF#40, []⟩ = .command (.ispow2 0xFFFF#16) ∧
    decode ⟨0x0700010000#40, []⟩ = .reserved .argBits ∧
    decode ⟨0x00FFFFFFFF#40, []⟩ = .reserved .opcode := by decide

/-- A unit to which one command has been presented. -/
def presented (cw : CommandWord) (s : State) : State := { s with inputs := [.command ⟨cw, []⟩] }

/-- The four kinds of reserved word at the edges of their ranges, and a word that is not reserved. -/
theorem witness_ReservedWordsDrawErrOp :
    (∀ cw ∈ [0x0000000000#40, 0x0900000000#40, 0xFFFFFFFFFF#40, 0x0200000001#40, 0x0280000000#40,
        0x0700010000#40, 0x07FFFFFFFF#40],
      (presented cw State.reset).inputs = [.command ⟨cw, []⟩] ∧
      ∃ why, decode ⟨cw, []⟩ = .reserved why) ∧
    ∃ t x, step (presented 0x08FFFFFFFF#40 State.reset) = .next t ∧ t.response = some x := by
  refine ⟨?_, _, _, rfl, rfl⟩
  intro cw h
  simp only [List.mem_cons, List.not_mem_nil, or_false] at h
  rcases h with h | h | h | h | h | h | h <;> subst h <;> exact ⟨rfl, _, rfl⟩

theorem witness_StepRunsDecodedCommand :
    (∃ (s : State) (r : Request) (rest : List HostInput) (i : Instr),
      s.inputs = .command r :: rest ∧ decode r = .command i) ∧
    (∃ s : State, s.inputs = []) ∧
    ∃ (nbits w : Nat) (i : Instr), decodeTableWord nbits w = some i :=
  ⟨⟨presented 0x0800000009#40 State.reset, _, _, _, rfl, rfl⟩, ⟨State.reset, rfl⟩,
    ⟨40, 0x0800000009, _, rfl⟩⟩

/-- The oldest input is a command, or a reset request with a command waiting behind it. -/
theorem witness_LaterInputsDoNotMatter :
    (∃ s t : State, s.inputs ≠ [] ∧ step s = .next t) ∧
    ∃ s t : State, s.inputs = [.reset, .command ⟨0x0800000009#40, []⟩] ∧ s.inputs ≠ [] ∧
      step s = .next t ∧ t.inputs = [.command ⟨0x0800000009#40, []⟩] :=
  ⟨⟨presented 0x0800000009#40 State.reset, _, by simp [presented], rfl⟩,
    ⟨{ State.reset with inputs := [.reset, .command ⟨0x0800000009#40, []⟩] }, _, rfl, by simp, rfl,
      rfl⟩⟩

theorem witness_Ispow2AnswersValidator :
    (0x00010000#32).extractLsb' 16 16 ≠ 0#16 ∧ (0x80000000#32).extractLsb' 16 16 ≠ 0#16 := by decide

theorem witness_ValidLengthsAreFifteen :
    State.reset.constructed = false ∧ validLength 1#32 = false ∧ validLength 0xFFFF#32 = false ∧
    validLength 0x10000#32 = false ∧ validLength 2#32 = true ∧ validLength 0x8000#32 = true := by
  decide

/-- The edges of the ranges of SqrtRecurrenceInvariant, IsqrtAnswersFloorRoot and
PassTouchesEachPositionOnce; a tie and a negative value for RoundingIsHalfAwayFromZero; two equal words
for ResponseWordLayout. -/
theorem witness_small_ranges :
    (0 ≤ 16 ∧ 16 ≤ 16 ∧ 15 < 16) ∧ (0 < 65535 ∧ 65535 < 2 ^ 16 ∧ 0 < 1 ∧ 1 < 2 ^ 16) ∧
    (1 ≤ 1 ∧ 1 ≤ 15 ∧ 15 ≤ 15) ∧ (0 < 1 ∧ (-1 : Int) < 0) ∧
    2 * |2 ^ 1 * rhazShr (-1) 1 - (-1)| = 2 ^ 1 ∧
    Response.word ⟨.errOp, 0#64⟩ = Response.word ⟨.errOp, 0#64⟩ := by decide

theorem witness_SqrtTopOfRange :
    0xFFFF0001 ≤ (0xFFFF0001#32).toNat ∧ 0xFFFF0001 ≤ (0xFFFFFFFF#32).toNat ∧
    |((65535#16).toNat : Int) - 65536| ≤ 1 := by decide

theorem witness_DoublingKeepsBitReversal :
    ∀ n ∈ [0, 14], n < 15 ∧ (demoMemory n).wf ∧
      ∀ i < 2 ^ n, ((demoMemory n).readTab i).toNat = bitrev i n := by
  intro n hn
  have h : n < 15 := by
    simp only [List.mem_cons, List.not_mem_nil, or_false] at hn
    omega
  exact ⟨h, demoMemory_wf n, fun i hi => demoMemory_readTab (by omega) hi⟩

theorem witness_BuilderMakesBitReversal :
    (1 ≤ 1 ∧ 1 ≤ 15 ∧ (demoMemory 0).wf) ∧ (1 ≤ 15 ∧ 15 ≤ 15 ∧ (demoMemory 0).wf) ∧
    ∃ t, exec (.forward 2#32 (demoPayload 2)) (demo 1) = .next t :=
  ⟨⟨by decide, by decide, demoMemory_wf 0⟩, ⟨by decide, by decide, demoMemory_wf 0⟩, _, rfl⟩

theorem witness_InPlaceBuildMatchesFreshLists :
    (demoMemory 1).wf ∧ (demoMemory 1).readTab 0 = 0#16 ∧ (demoMemory 1).readTab 1 = 1#16 :=
  ⟨demoMemory_wf 1, by decide +kernel, by decide +kernel⟩

theorem witness_BitReversalIsInvolution :
    (0 < 2 ^ 0 ∧ 2 ^ 15 - 1 < 2 ^ 15) ∧ (demo 1).Inv ∧ (demo 15).Inv ∧
    (demo 1).constructed = true ∧ (demo 15).constructed = true ∧ 1 < (demo 1).length.toNat ∧
    32767 < (demo 15).length.toNat :=
  ⟨by decide, demo_inv (by omega) (by omega), demo_inv (by omega) (by omega), rfl, rfl, by decide,
    by decide⟩

/-- The hypotheses of the statements about an accepted FORWARD or INVERSE, and about the load and the
passes, at the shortest and the longest length: PermutingLoadGathersInput,
ForwardComputesDecimationInTime, InverseComputesScaledConjugate, NoBufferWordOverflows,
ForwardOfConstantIsImpulse. -/
theorem witness_accepted_transform :
    ∀ k ∈ [1, 15], (demo k).Inv ∧ (demo k).constructed = true ∧
      (BitVec.ofNat 32 (2 ^ k)).toNat = (demo k).length.toNat ∧
      (demoPayload (2 ^ k)).length = (demo k).length.toNat := by
  intro k hk
  have h : 1 ≤ k ∧ k ≤ 15 := by
    simp only [List.mem_cons, List.not_mem_nil, or_false] at hk
    omega
  have hp : (2 : Nat) ^ k ≤ 2 ^ 15 := Nat.pow_le_pow_right (by omega) h.2
  refine ⟨demo_inv h.1 h.2, rfl, ?_, ?_⟩
  · rw [demo_length h.2, BitVec.toNat_ofNat, Nat.mod_eq_of_lt (by omega)]
  · rw [demo_length h.2, demoPayload, List.length_replicate]

theorem witness_SourceTablesAreBuilt : (demoMemory 0).wf := demoMemory_wf 0

/-- The edges of the index ranges of RomTableProperties, RomHoldsNearestCosines,
TwiddleLookupIsConjugate and AnglesCoverHalfCircle, and of TwiddleMultiplyLaws item 8. -/
theorem witness_rom_ranges :
    (0 < 1 ∧ 1 < 8192) ∧ (0 < 8191 ∧ 8191 < 8192) ∧
    (∀ s ∈ [1, 15], 1 ≤ s ∧ s ≤ 15 ∧ 0 < 2 ^ (s - 1) ∧ 2 ^ (s - 1) - 1 < 2 ^ (s - 1)) ∧
    (∃ t : Int, |(t : ℝ) - 2 ^ 30 * Real.cos (2 * Real.pi * (0 : Nat) / 32768)| < 1 / 2) ∧
    |(2147483648 : Int)| ≤ 2147483648 ∧ |(759250125 : Int)| + |(759250125 : Int)| ≤ 1518500250 :=
  ⟨by decide, by decide, by decide, ⟨2 ^ 30, by norm_num⟩, by decide, by decide⟩

theorem witness_FirstTwoPassesAreExact :
    (∀ s ∈ [1, 2], 1 ≤ s ∧ s ≤ 2 ∧ 2 ^ (s - 1) - 1 < 2 ^ (s - 1)) ∧ (2 = 0 ∨ 2 = 2) := by decide

/-- Each clause: an instance, an illegal length, and the shortest and the longest legal one. -/
theorem witness_ConstructCreatesInstance :
    (demo 1).constructed = true ∧
    (State.reset.constructed = false ∧ ¬ ∃ k, 1 ≤ k ∧ k ≤ 15 ∧ (65536#32).toNat = 2 ^ k) ∧
    State.reset.mem.wf ∧ State.reset.constructed = false ∧
    (2#32).toNat = 2 ^ 1 ∧ (32768#32).toNat = 2 ^ 15 := by
  refine ⟨rfl, ⟨rfl, ?_⟩, reset_mem_wf, rfl, rfl, rfl⟩
  rintro ⟨k, -, hk, h⟩
  have : (2 : Nat) ^ k ≤ 2 ^ 15 := Nat.pow_le_pow_right (by omega) hk
  have h' : (65536#32).toNat = 65536 := rfl
  omega

theorem witness_ConstructDrawsBuffers :
    ∀ L ∈ [2#32, 32768#32], ∃ t : State, State.reset.mem.wf ∧
      exec (.construct L) State.reset = .next t ∧ State.reset.constructed = false ∧
      t.constructed = true ∧ (L - 1#32).toNat < L.toNat := by
  intro L h
  simp only [List.mem_cons, List.not_mem_nil, or_false] at h
  rcases h with h | h <;> subst h <;> exact ⟨_, reset_mem_wf, rfl, rfl, rfl, by decide⟩

theorem reset_controlClear : State.reset.controlClear := ⟨rfl, rfl, rfl⟩

theorem reset_unconstructed_inv : State.reset.Inv where
  mem := reset_mem_wf
  legal := by simp [State.reset]
  table := by simp [State.reset]
  clear := fun _ => reset_controlClear

theorem witness_DestroyTearsDown :
    State.reset.Inv ∧ State.reset.constructed = false ∧ (0x80000000#32) ≠ 0#32 ∧
    validLength 32768#32 = true := ⟨reset_unconstructed_inv, rfl, by decide, by decide⟩

/-- Lengths 2 and 4 have accepted transforms. -/
theorem witness_ShortForwardIsExactDft :
    ∀ k ∈ [1, 2], (demo k).Inv ∧ (demo k).constructed = true ∧
      ((demo k).length.toNat = 2 ∨ (demo k).length.toNat = 4) ∧
      (BitVec.ofNat 32 (2 ^ k)).toNat = (demo k).length.toNat ∧
      (demoPayload (2 ^ k)).length = (demo k).length.toNat := by
  intro k h
  simp only [List.mem_cons, List.not_mem_nil, or_false] at h
  rcases h with h | h <;> subst h
  · exact ⟨demo_inv (by omega) (by omega), rfl, .inl rfl, rfl, rfl⟩
  · exact ⟨demo_inv (by omega) (by omega), rfl, .inr rfl, rfl, rfl⟩

theorem witness_InverseOfImpulseIsConstant :
    ∀ k ∈ [1, 15], (demo k).Inv ∧ (demo k).constructed = true ∧
      (BitVec.ofNat 32 (2 ^ k)).toNat = (demo k).length.toNat ∧
      (BitVec.ofInt 32 (2 ^ k * 3)).toInt = ((demo k).length.toNat : Int) * 3 ∧
      (BitVec.ofInt 32 (2 ^ k * -5)).toInt = ((demo k).length.toNat : Int) * -5 := by
  intro k h
  simp only [List.mem_cons, List.not_mem_nil, or_false] at h
  rcases h with h | h <;> subst h <;>
    exact ⟨demo_inv (by omega) (by omega), rfl, by decide, by decide, by decide⟩

theorem witness_RoundTripExactAtLengthsTwoAndFour :
    ∀ k ∈ [1, 2], ∃ t : State, (demo k).Inv ∧ (demo k).constructed = true ∧
      ((demo k).length.toNat = 2 ∨ (demo k).length.toNat = 4) ∧
      exec (.forward (BitVec.ofNat 32 (2 ^ k)) (demoPayload (2 ^ k))) (demo k) = .next t ∧
      resultFits (demo k).length.toNat t.mem = true := by
  intro k h
  simp only [List.mem_cons, List.not_mem_nil, or_false] at h
  rcases h with h | h <;> subst h
  · exact ⟨_, demo_inv (by omega) (by omega), rfl, .inl rfl, rfl, by decide +kernel⟩
  · exact ⟨_, demo_inv (by omega) (by omega), rfl, .inr rfl, rfl, by decide +kernel⟩

/-- The payload of 95_test_vectors T6: its pass 3 rounds, and its result fits. -/
theorem witness_RoundTripExactAtLengthEight :
    ∃ t : State, (demo 3).Inv ∧ (demo 3).constructed = true ∧ (demo 3).length.toNat = 8 ∧
      exec (.forward 8#32 (asmSamples [1, 2, 3, 4, 5, 6, 7, 8] (List.replicate 8 0))) (demo 3) =
        .next t ∧ resultFits 8 t.mem = true :=
  ⟨_, demo_inv (by omega) (by omega), rfl, rfl, rfl, by decide +kernel⟩

theorem witness_SourceRoundTripsAtLengthEight :
    (demo 3).Inv ∧ (demo 3).constructed = true ∧ (demo 3).length.toNat = 8 :=
  ⟨demo_inv (by omega) (by omega), rfl, rfl⟩

theorem witness_ButterflyOrderIsIrrelevant :
    (butterflies (2 ^ 3) 2).reverse.Perm (butterflies (2 ^ 3) 2) ∧
    (butterflies (2 ^ 3) 2).reverse ≠ butterflies (2 ^ 3) 2 :=
  ⟨List.reverse_perm _, by decide⟩

/-- Two states that hold different buffers, labels and histories. -/
theorem witness_TransformIgnoresOldBuffers :
    let other : State :=
      { demo 1 with mem := (demo 1).mem.writeRe 0 7#64, domain := .freq, draws := 9 }
    (demo 1).Inv ∧ other.Inv ∧ (demo 1).constructed = true ∧ other.constructed = true ∧
      (demo 1).length = other.length ∧ other.mem.readRe 0 ≠ (demo 1).mem.readRe 0 := by
  have h := demo_inv (k := 1) (by omega) (by omega)
  exact ⟨h, ⟨Memory.writeRe_wf h.mem 0 7#64, h.legal, h.table, by simp [demo]⟩, rfl, rfl, rfl,
    by decide +kernel⟩

/-- The clauses of ResultReadsReturnBufferWords at the edges: no instance, index `length`, the last
index, at the shortest and the longest length. -/
theorem witness_ResultReadsReturnBufferWords :
    State.reset.constructed = false ∧
    ∀ k ∈ [1, 15], (demo k).Inv ∧ (demo k).constructed = true ∧
      (demo k).length.toNat ≤ (BitVec.ofNat 32 (2 ^ k)).toNat ∧
      (BitVec.ofNat 32 (2 ^ k - 1)).toNat < (demo k).length.toNat := by
  refine ⟨rfl, fun k h => ?_⟩
  simp only [List.mem_cons, List.not_mem_nil, or_false] at h
  rcases h with h | h <;> subst h <;>
    exact ⟨demo_inv (by omega) (by omega), rfl, by decide, by decide⟩

theorem witness_ReadbackReturnsWholeResult : (demo 15).Inv ∧ (demo 15).constructed = true :=
  ⟨demo_inv (by omega) (by omega), rfl⟩

/-- A rejection of each kind: no instance, an index out of range, an illegal length. -/
theorem witness_RejectionChangesNothing :
    (∃ t, step (presented 0x0500000000#40 State.reset) = .next t ∧
      t.response = some ⟨.errState, 0#64⟩) ∧
    (∃ t, step (presented 0x0500000008#40 (demo 3)) = .next t ∧
      t.response = some ⟨.errIndex, 0#64⟩) ∧
    ∃ t, step (presented 0x0100000001#40 State.reset) = .next t ∧
      t.response = some ⟨.errSize, 0#64⟩ :=
  ⟨⟨_, rfl, rfl⟩, ⟨_, rfl, rfl⟩, ⟨_, rfl, rfl⟩⟩

theorem witness_FirstFailingCheckGivesCode :
    (presented 0x0500000008#40 (demo 3)).Inv ∧ Request.framed ⟨0x0500000008#40, []⟩ = true ∧
    (presented 0x0500000008#40 (demo 3)).inputs = [.command ⟨0x0500000008#40, []⟩] := by
  have h := demo_inv (k := 3) (by omega) (by omega)
  exact ⟨⟨h.mem, h.legal, h.table, by simp [presented, demo]⟩, by decide, rfl⟩

theorem witness_ReadOnlyCommandsFrame :
    ∃ t₁ t₂ t₃ t₄, exec (.resultRe 7#32) (demo 3) = .next t₁ ∧
      exec (.resultIm 8#32) (demo 3) = .next t₂ ∧ exec (.ispow2 8#16) (demo 3) = .next t₃ ∧
      exec (.isqrt 8#32) (demo 3) = .next t₄ :=
  ⟨_, _, _, _, rfl, rfl, rfl, rfl⟩

/-- Accepted and rejected transforms; an accepted FORWARD changes the domain. -/
theorem witness_TransformCommandsFrame :
    ∃ t u v, (demo 1).Inv ∧ exec (.forward 2#32 (demoPayload 2)) (demo 1) = .next t ∧
      t.domain ≠ (demo 1).domain ∧
      exec (.inverse 2#32 (demoPayload 2)) (demo 1) = .next u ∧
      exec (.inverse 3#32 (demoPayload 3)) (demo 1) = .next v ∧ v.response ≠ some ⟨.ok, 0#64⟩ :=
  ⟨_, _, _, demo_inv (by omega) (by omega), rfl, by decide, rfl, rfl, by decide⟩

/-- Accepted and rejected CONSTRUCT, DESTROY of an instance and of none; both change the lifecycle. -/
theorem witness_LifecycleCommandsFrame :
    ∃ t u v w, exec (.construct 2#32) State.reset = .next t ∧
      t.constructed ≠ State.reset.constructed ∧
      exec (.construct 3#32) State.reset = .next u ∧ u.response ≠ some ⟨.ok, 0#64⟩ ∧
      exec .destroy (demo 15) = .next v ∧ v.constructed ≠ (demo 15).constructed ∧
      exec .destroy State.reset = .next w :=
  ⟨_, _, _, _, rfl, by decide, rfl, by decide, rfl, by decide, rfl⟩

/-- Each way the label changes: to TIME by CONSTRUCT (from a state that holds FREQ), DESTROY and
INVERSE, to FREQ by FORWARD. -/
theorem witness_DomainIsWrittenNeverRead :
    ∃ t u v w, exec (.construct 2#32) { State.reset with domain := .freq } = .next t ∧
      t.domain = .time ∧ exec .destroy { demo 1 with domain := .freq } = .next u ∧
      u.domain = .time ∧
      exec (.inverse 2#32 (demoPayload 2)) { demo 1 with domain := .freq } = .next v ∧
      v.domain = .time ∧ exec (.forward 2#32 (demoPayload 2)) (demo 1) = .next w ∧
      w.domain = .freq ∧ (demo 1).domain = .time :=
  ⟨_, _, _, _, rfl, rfl, rfl, rfl, rfl, rfl, rfl, rfl, rfl⟩

theorem witness_RepeatingACommand :
    (∃ t, (demo 1).Inv ∧ (¬ ∃ L, Instr.destroy = .construct L) ∧ exec .destroy (demo 1) = .next t) ∧
    ∃ t, exec (.construct 32768#32) State.reset = .next t ∧ t.constructed = true :=
  ⟨⟨_, demo_inv (by omega) (by omega), by simp, rfl⟩, ⟨_, rfl, rfl⟩⟩

theorem witness_ResetRequestEffect :
    ∃ (s : State) (u : State), s.inputs = [.reset] ∧ s.constructed = true ∧
      exec .destroy s = .next u :=
  ⟨{ demo 2 with inputs := [.reset] }, _, rfl, rfl, rfl⟩

theorem witness_StepKeepsInvariant :
    ∃ t, (demo 2).Inv ∧ step (demo 2) = .next t ∧
      ∃ u, step (presented 0x0200000000#40 (demo 2)) = .next u ∧ u.constructed = false :=
  ⟨_, demo_inv (by omega) (by omega), rfl, _, rfl, rfl⟩

theorem witness_ReachableStatesGoOn :
    (demo 1).Inv ∧ (demo 15).Inv ∧ State.reset.Inv ∧
    ∃ s : State, Reachable s ∧ s.constructed = true ∧ s.length = 32768#16 :=
  ⟨demo_inv (by omega) (by omega), demo_inv (by omega) (by omega), reset_unconstructed_inv,
    _, .step (.offer (.command ⟨0x0100008000#40, []⟩) .reset) rfl, rfl, rfl⟩

end Sys2Proof.Tests
end

section
/-! PROOF. 00_scope R6: a step runs the decoded command. -/

namespace Sys2Proof.Machine

theorem decodeTableWord_eq_some_iff {nbits w : Nat} {i : Instr} :
    decodeTableWord nbits w = some i ↔ decode (requestOfBits nbits w) = .command i := by
  unfold decodeTableWord
  cases decode (requestOfBits nbits w) with
  | command j => simp
  | reserved why => simp

theorem State.accept_of_inputs_eq_cons {s : State} {x : HostInput} {rest : List HostInput}
    (h : s.inputs = x :: rest) : s.accept = { s with inputs := rest } := by
  simp [State.accept, h]

@[simp] theorem State.accept_withFetchWord (s : State) (nbits w : Nat) :
    (s.withFetchWord nbits w).accept = s := rfl

theorem step_withFetchWord {s : State} {nbits w : Nat} {i : Instr}
    (h : decodeTableWord nbits w = some i) : step (s.withFetchWord nbits w) = exec i s := by
  have hstep := step_of_command (s.withFetchWord_inputs nbits w) (decodeTableWord_eq_some_iff.mp h)
  rwa [State.accept_withFetchWord] at hstep

/-- Settles O7: the oldest input is accepted, decoded and executed; log 14's state presents the word. -/
theorem stepRunsDecodedCommand : Obligations.StepRunsDecodedCommand := by
  refine ⟨fun s r rest i hin hdec => ?_, fun _ => step_idle, fun _ _ _ _ => step_withFetchWord⟩
  rw [step_of_command hin hdec, State.accept_of_inputs_eq_cons hin]

end Sys2Proof.Machine
end

section
/-! PROOF. Rounding half away from zero (00_scope R11). The bounds are proved for `0 ≤ v`, where the
rounding is one floor division, and carried to `v < 0` by oddness. -/

namespace Sys2Proof.Machine

@[simp] theorem rhazShr_zero_right (v : Int) : rhazShr v 0 = v := rfl

theorem rhazShr_of_nonneg {v : Int} {k : Nat} (hk : 0 < k) (hv : 0 ≤ v) :
    rhazShr v k = (v + 2 ^ (k - 1)) / 2 ^ k := by
  rw [rhazShr, if_neg hk.ne', if_pos hv]

theorem rhazShr_of_neg {v : Int} {k : Nat} (hk : 0 < k) (hv : v < 0) :
    rhazShr v k = -((-v + 2 ^ (k - 1)) / 2 ^ k) := by
  rw [rhazShr, if_neg hk.ne', if_neg hv.not_ge]

@[simp] theorem rhazShr_zero_left (k : Nat) : rhazShr 0 k = 0 := by
  rcases k.eq_zero_or_pos with rfl | hk
  · rfl
  · have hhalf : (0 : Int) < 2 ^ (k - 1) := by positivity
    rw [rhazShr_of_nonneg hk le_rfl, ← mul_pow_sub_one hk.ne', zero_add]
    exact Int.ediv_eq_zero_of_lt hhalf.le (by omega)

/-- `rhaz_shr` is odd. -/
theorem rhazShr_neg (v : Int) (k : Nat) : rhazShr (-v) k = -rhazShr v k := by
  rcases k.eq_zero_or_pos with rfl | hk
  · rfl
  rcases lt_trichotomy v 0 with hv | rfl | hv
  · rw [rhazShr_of_neg hk hv, rhazShr_of_nonneg hk (by omega), neg_neg]
  · simp
  · rw [rhazShr_of_nonneg hk hv.le, rhazShr_of_neg hk (by omega), neg_neg]

/-- For `0 ≤ v` the result lies at most half a unit above `v / 2^k` and less than half a unit below
it: so a tie went up. -/
theorem rhazShr_bounds_of_nonneg {v : Int} (k : Nat) (hv : 0 ≤ v) :
    2 * (2 ^ k * rhazShr v k - v) ≤ 2 ^ k ∧ 2 * (v - 2 ^ k * rhazShr v k) < 2 ^ k := by
  rcases k.eq_zero_or_pos with rfl | hk
  · simp
  · have hunit := mul_pow_sub_one hk.ne' (2 : Int)
    have hpos : (0 : Int) < 2 ^ k := by positivity
    have hle := Int.mul_ediv_self_le (x := v + 2 ^ (k - 1)) hpos.ne'
    have hlt := Int.lt_mul_ediv_self_add (x := v + 2 ^ (k - 1)) hpos
    rw [rhazShr_of_nonneg hk hv]
    constructor <;> linarith

/-- The result is within half a unit of `v / 2^k`, and on a tie it is the one further from zero. -/
def RoundsToNearestTiesAway (v : Int) (k : Nat) : Prop :=
  2 * |2 ^ k * rhazShr v k - v| ≤ 2 ^ k ∧
  (2 * |2 ^ k * rhazShr v k - v| = 2 ^ k → |v| < |2 ^ k * rhazShr v k|)

theorem roundsToNearestTiesAway_of_nonneg {v : Int} (k : Nat) (hv : 0 ≤ v) :
    RoundsToNearestTiesAway v k := by
  obtain ⟨habove, hbelow⟩ := rhazShr_bounds_of_nonneg k hv
  unfold RoundsToNearestTiesAway
  rcases le_or_gt (2 ^ k * rhazShr v k) v with hdown | hup
  · rw [abs_of_nonpos (sub_nonpos.mpr hdown)]
    constructor <;> omega
  · rw [abs_of_pos (sub_pos.mpr hup), abs_of_nonneg hv, abs_of_pos (hv.trans_lt hup)]
    exact ⟨habove, fun _ => hup⟩

theorem roundsToNearestTiesAway_neg {v : Int} {k : Nat} (h : RoundsToNearestTiesAway v k) :
    RoundsToNearestTiesAway (-v) k := by
  have hdist : |2 ^ k * rhazShr (-v) k - -v| = |2 ^ k * rhazShr v k - v| := by
    rw [rhazShr_neg, ← abs_neg]
    congr 1
    ring
  have hmag : |2 ^ k * rhazShr (-v) k| = |2 ^ k * rhazShr v k| := by
    rw [rhazShr_neg, mul_neg, abs_neg]
  rwa [RoundsToNearestTiesAway, hdist, hmag, abs_neg]

theorem roundsToNearestTiesAway (v : Int) (k : Nat) : RoundsToNearestTiesAway v k := by
  rcases le_total 0 v with hv | hv
  · exact roundsToNearestTiesAway_of_nonneg k hv
  · have hneg := roundsToNearestTiesAway_of_nonneg k (neg_nonneg.mpr hv)
    simpa only [neg_neg] using roundsToNearestTiesAway_neg hneg

/-- Settles O26, from the bounds for `0 ≤ v` and oddness. -/
theorem roundingIsHalfAwayFromZero : Obligations.RoundingIsHalfAwayFromZero := by
  refine ⟨fun v k => ?_, by decide⟩
  obtain ⟨hnear, htie⟩ := roundsToNearestTiesAway v k
  exact ⟨rhazShr_zero_right v, rhazShr_of_nonneg, rhazShr_of_neg, hnear, htie, rhazShr_neg v k⟩

end Sys2Proof.Machine
end

section
/-! PROOF. What the builder leaves in the table (42_permutation_table R120, R121), and which lengths
CONSTRUCT accepts (40_size_validator R102). -/

namespace Sys2Proof.Machine

/-! ## Legal lengths -/

theorem isPowerOfTwo_iff (x : BitVec 16) : isPowerOfTwo x = true ↔ x.toNat.isPowerOfTwo := by
  rw [← Nat.ne_zero_and_sub_one_eq_zero_iff_isPowerOfTwo]
  simp only [isPowerOfTwo, Bool.and_eq_true, bne_iff_ne, beq_iff_eq, ne_eq, ← BitVec.toNat_inj,
    BitVec.toNat_and, BitVec.toNat_ofNat, Nat.zero_mod]
  refine and_congr_right fun hx => ?_
  have hsub : (x - 1#16).toNat = x.toNat - 1 := by bv_omega
  rw [hsub]

/-- CONSTRUCT accepts exactly the powers `2^1` to `2^15`. -/
theorem validLength_iff (L : BitVec 32) :
    validLength L = true ↔ ∃ k, 1 ≤ k ∧ k ≤ 15 ∧ L.toNat = 2 ^ k := by
  simp only [validLength, Bool.and_eq_true, decide_eq_true_eq, isPowerOfTwo_iff,
    BitVec.extractLsb'_toNat, Nat.shiftRight_zero]
  constructor
  · rintro ⟨⟨hmax, k, hk⟩, hmin⟩
    rw [Nat.mod_eq_of_lt (by omega)] at hk
    refine ⟨k, Nat.one_le_iff_ne_zero.mpr ?_, ?_, hk⟩
    · rintro rfl
      omega
    · have hlt : 2 ^ k < 2 ^ 16 := by omega
      exact Nat.le_of_lt_succ ((Nat.pow_lt_pow_iff_right one_lt_two).mp hlt)
  · rintro ⟨k, hk1, hk15, hL⟩
    have hle : 2 ^ k ≤ 2 ^ 15 := Nat.pow_le_pow_right two_pos hk15
    have hge : 2 ^ 1 ≤ 2 ^ k := Nat.pow_le_pow_right two_pos hk1
    rw [Nat.mod_eq_of_lt (by omega), hL]
    exact ⟨⟨by omega, k, rfl⟩, by omega⟩

/-! ## Words the builder does not reach -/

theorem readTab_tableEntry_above {M k a : Nat} (m : Memory) (ha : 2 * k + 1 < a) :
    (tableEntry M m k).readTab a = m.readTab a := by
  have hodd : ¬ (2 * k + 1 = a) := by omega
  have heven : ¬ (2 * k = a) := by omega
  simp [tableEntry, Memory.readTab_writeTab, hodd, heven]

theorem readTab_tableDouble_above {M a : Nat} (m : Memory) (ha : 2 * M ≤ a) :
    (tableDouble m M).readTab a = m.readTab a := by
  refine List.foldlRecOn (motive := fun x : Memory => x.readTab a = m.readTab a) _ _ rfl
    fun x hx k hk => ?_
  have hkM : k < M := by simpa using hk
  rw [readTab_tableEntry_above x (by omega), hx]

/-- The builder writes no word from `N` on, whatever the depth of the array (10_state R34 item 5). -/
theorem readTab_buildTable_above {N a : Nat} (m : Memory) (hN : N ≠ 0) (ha : N ≤ a) :
    (buildTable N m).readTab a = m.readTab a := by
  refine List.foldlRecOn (motive := fun x : Memory => x.readTab a = m.readTab a) _ _ ?_
    fun x hx M hM => ?_
  · have h0 : ¬ (0 = a) := by omega
    simp [Memory.readTab_writeTab, h0]
  · obtain ⟨n, hn, rfl⟩ := List.mem_map.mp hM
    have hle : 2 ^ (n + 1) ≤ N :=
      (Nat.pow_le_pow_right two_pos (List.mem_range.mp hn)).trans (Nat.log2_self_le hN)
    rw [readTab_tableDouble_above x (by rw [pow_succ] at hle; omega), hx]

/-! ## The table it leaves -/

/-- The table of the `n`-bit reversal stands in words `[0, 2^n)`. -/
def Memory.HoldsBitrev (m : Memory) (n : Nat) : Prop :=
  ∀ i < 2 ^ n, (m.readTab i).toNat = bitrev i n

/-- Word `i` of the doubled table is word `i / 2` of the old one, which is the reversal of the upper
bits of `i`, with the lowest bit of `i` added at the top. -/
theorem holdsBitrev_tableDouble {m : Memory} {n : Nat} (h : m.wf) (hn : n < 15)
    (hold : m.HoldsBitrev n) : (tableDouble m (2 ^ n)).HoldsBitrev (n + 1) := by
  intro i hi
  have hpow : 2 ^ n ≤ 2 ^ 14 := Nat.pow_le_pow_right two_pos (by omega)
  have hhalf := hold (i / 2) (by rw [pow_succ] at hi; omega)
  have hrev := bitrev_lt_two_pow (i / 2) n
  rw [readTab_tableDouble h (by rw [nMax_eq]; omega), if_pos (by rwa [pow_succ'] at hi),
    bitrev_succ, BitVec.toNat_add, hhalf]
  rcases Nat.mod_two_eq_zero_or_one i with hbit | hbit
  · simp only [hbit, zero_ne_one, if_false, BitVec.toNat_zero, Nat.zero_mul]
    omega
  · simp only [hbit, if_true, BitVec.toNat_ofNat, Nat.one_mul]
    omega

theorem holdsBitrev_doublings {m : Memory} (h : m.wf) (n : Nat) (hn : n ≤ 15) :
    (((List.range n).map (2 ^ ·)).foldl tableDouble (m.writeTab 0 0#16)).HoldsBitrev n := by
  induction n with
  | zero =>
    intro i hi
    obtain rfl : i = 0 := by omega
    simp [Memory.readTab_writeTab, h.1, nMax_eq, bitrev]
  | succ n ih =>
    have hwf : (((List.range n).map (2 ^ ·)).foldl tableDouble (m.writeTab 0 0#16)).wf :=
      foldl_keeps Memory.wf _ (fun _ M hm => tableDouble_wf hm M) _ _ (Memory.writeTab_wf h _ _)
    rw [List.range_succ, List.map_append, List.foldl_append]
    exact holdsBitrev_tableDouble hwf (by omega) (ih (by omega))

/-- The built table is the bit reversal (42_permutation_table R120). -/
theorem holdsBitrev_buildTable {m : Memory} (h : m.wf) {n : Nat} (hn : n ≤ 15) :
    (buildTable (2 ^ n) m).HoldsBitrev n := by
  rw [buildTable, Nat.log2_two_pow]
  exact holdsBitrev_doublings h n hn

end Sys2Proof.Machine
end

section
/-! PROOF. The words of the three arrays from a length on, which no operation on that length writes
(10_state R34 item 5). -/

namespace Sys2Proof.Machine

theorem getD_fill_above {α : Type} (f : Nat → α) (l : List α) {n a : Nat} (d : α) (ha : n ≤ a) :
    (fill f n 0 l).getD a d = l.getD a d := by
  rw [getD_fill, if_neg fun h => ha.not_gt h.1]

/-- All three arrays of `m'` hold at `a` what those of `m` hold. -/
def Memory.SameAt (m' m : Memory) (a : Nat) : Prop :=
  m'.readTab a = m.readTab a ∧ m'.readRe a = m.readRe a ∧ m'.readIm a = m.readIm a

theorem Memory.sameAt_forget_above (m : Memory) (d : Nat) {n a : Nat} (ha : n ≤ a) :
    (m.forget d n).SameAt m a :=
  ⟨getD_fill_above _ _ _ ha, getD_fill_above _ _ _ ha, getD_fill_above _ _ _ ha⟩

theorem Memory.sameAt_construct_above (m : Memory) (d : Nat) {N a : Nat} (hN : N ≠ 0) (ha : N ≤ a) :
    ((buildTable N m).drawBuffers d N).SameAt m a := by
  obtain ⟨hre, him⟩ := buildTable_buffers m N
  refine ⟨readTab_buildTable_above m hN ha, ?_, ?_⟩
  · exact (getD_fill_above _ _ _ ha).trans (congrArg (·.getD a 0#64) hre)
  · exact (getD_fill_above _ _ _ ha).trans (congrArg (·.getD a 0#64) him)

/-- A sample determines both its words. -/
theorem Memory.readSample_eq_iff {m m' : Memory} {a : Nat} :
    m'.readSample a = m.readSample a ↔ m'.readRe a = m.readRe a ∧ m'.readIm a = m.readIm a := by
  simp only [Memory.readSample, Cplx.mk.injEq, BitVec.toInt_inj]

/-- The passes leave every position from `N` on. -/
theorem readSample_passes_above {m : Memory} (h : m.wf) (inv : Bool) {N : Nat} (n : Nat)
    (hN : N ≤ Config.nMax) {p : Nat} (hp : N ≤ p) :
    (passes inv N n m).readSample p = m.readSample p := by
  refine (List.foldlRecOn (motive := fun x : Memory => x.wf ∧ x.readSample p = m.readSample p) _ _
    ⟨h, rfl⟩ fun x hx s hs => ?_).2
  obtain ⟨hwf, hsame⟩ := hx
  have hs1 : 1 ≤ s := (List.mem_range'_1.mp hs).1
  exact ⟨pass_wf hwf inv N s, (readSample_pass_above hwf inv hs1 hN hp).trans hsame⟩

/-- A transform of length `N` whose load stays below `N` leaves every position from `N` on. -/
theorem readSample_transform_above {m : Memory} (h : m.wf) (inv : Bool) {N : Nat} (n : Nat)
    (hN : N ≤ Config.nMax) (payload : List Sample) {p : Nat} (hp : N ≤ p)
    (htab : ∀ i < payload.length, (m.readTab i).toNat < N) :
    (transform inv N n payload m).readSample p = m.readSample p := by
  have hload : (permuteLoad payload m).readSample p = m.readSample p :=
    Memory.readSample_eq_iff.mpr
      (permuteLoad_untouched m payload p fun i hi => ((htab i hi).trans_le hp).ne)
  have hpasses := (readSample_passes_above (permuteLoad_wf h payload) inv n hN hp).trans hload
  cases inv with
  | false => exact hpasses
  | true =>
    have hwf := passes_wf (permuteLoad_wf h payload) true N n
    exact (readSample_scaleAll hwf hN n p).trans ((if_neg hp.not_gt).trans hpasses)

end Sys2Proof.Machine
end

section
/-! PROOF. Everything a command can do to the state, said once: it is rejected, it only answers, or it
has one of the four effects of the lifecycle and transform commands. -/

namespace Sys2Proof.Machine

/-- The transform command of a direction. -/
def transformInstr (inv : Bool) (cnt : BitVec 32) (payload : List Sample) : Instr :=
  if inv then .inverse cnt payload else .forward cnt payload

theorem exec_transformInstr (inv : Bool) (cnt : BitVec 32) (payload : List Sample) (s : State) :
    exec (transformInstr inv cnt payload) s = transformCommand inv cnt payload s := by
  cases inv <;> rfl

/-- `t` is `s` after command `i` has completed. -/
inductive Completes (i : Instr) (s : State) : State → Prop
  | rejected (code : Status) (hcode : code ≠ .ok) : Completes i s (s.answer code 0#64)
  /-- The command has responded and changed nothing else. -/
  | answered (data : BitVec 64) : Completes i s (s.answer .ok data)
  | constructed (L : BitVec 32) (hi : i = .construct L) (hs : s.constructed = false)
      (hL : validLength L = true) : Completes i s ((construct L s).answer .ok 0#64)
  | destroyed (hi : i = .destroy) (hs : s.constructed = true) :
      Completes i s ((destroy s).answer .ok 0#64)
  | cleared (hi : i = .destroy) (hs : s.constructed = false) :
      Completes i s ((clearControl s).answer .ok 0#64)
  | transformed (inv : Bool) (cnt : BitVec 32) (payload : List Sample)
      (hi : i = transformInstr inv cnt payload) (hs : s.constructed = true)
      (hcnt : cnt.toNat = s.length.toNat) (hlen : payload.length = s.length.toNat)
      (hbounds : transformInBounds s.length.toNat s.mem = true) :
      Completes i s ((s.transformed inv payload).answer .ok 0#64)

theorem completes_of_readResult {i : Instr} {word : BufWord} {index : BitVec 32} {s t : State}
    (h : readResult word index s = .next t) : Completes i s t := by
  rcases readResult_cases word index s with ⟨-, he⟩ | ⟨-, -, he⟩ | ⟨-, -, -, he⟩ | ⟨-, -, -, he⟩ <;>
    cases he.symm.trans h
  · exact .rejected _ (by simp)
  · exact .rejected _ (by simp)
  · exact .answered word

theorem completes_of_transformCommand {inv : Bool} {cnt : BitVec 32} {payload : List Sample}
    {s t : State} (h : transformCommand inv cnt payload s = .next t) :
    Completes (transformInstr inv cnt payload) s t := by
  rcases transformCommand_cases inv cnt payload s with
    ⟨-, he⟩ | ⟨-, -, he⟩ | ⟨hs, hcnt, hlen, hbounds, he⟩ | ⟨-, -, -, -, he⟩ <;>
    cases he.symm.trans h
  · exact .rejected _ (by simp)
  · exact .rejected _ (by simp)
  · exact .transformed inv cnt payload rfl hs hcnt hlen hbounds

/-- A command that completes has one of the effects of `Completes`. -/
theorem completes_of_exec {i : Instr} {s t : State} (h : exec i s = .next t) : Completes i s t := by
  cases i with
  | construct L =>
    rcases execConstruct_cases L s with ⟨-, he⟩ | ⟨hs, hL, he⟩ | ⟨-, -, he⟩ <;>
      cases he.symm.trans h
    · exact .rejected _ (by simp)
    · exact .constructed L rfl hs hL
    · exact .rejected _ (by simp)
  | destroy =>
    rcases execDestroy_cases s with ⟨hs, he⟩ | ⟨hs, he⟩ <;> cases he.symm.trans h
    · exact .destroyed rfl hs
    · exact .cleared rfl hs
  | forward cnt payload => exact completes_of_transformCommand (inv := false) h
  | inverse cnt payload => exact completes_of_transformCommand (inv := true) h
  | resultRe index => exact completes_of_readResult h
  | resultIm index => exact completes_of_readResult h
  | ispow2 x =>
    cases h
    exact .answered ..
  | isqrt x =>
    cases h
    exact .answered ..

end Sys2Proof.Machine
end

section
/-! PROOF. The invariants of 10_state R34: they hold after power-up, every step keeps them, and where
they hold no step stops. -/

namespace Sys2Proof.Machine

/-! ## What the invariants say of a constructed unit -/

theorem State.Inv.length_eq {s : State} (h : s.Inv) (hs : s.constructed = true) :
    s.length.toNat = 2 ^ s.log2n.toNat :=
  (h.legal hs).2

/-- No length exceeds the arrays. -/
theorem State.Inv.length_le {s : State} (h : s.Inv) (hs : s.constructed = true) :
    s.length.toNat ≤ Config.nMax := by
  rw [h.length_eq hs, nMax_eq]
  exact Nat.pow_le_pow_right two_pos (Nat.le_of_lt_succ s.log2n.isLt)

/-- The table points below the length. -/
theorem State.Inv.readTab_lt {s : State} (h : s.Inv) (hs : s.constructed = true) {i : Nat}
    (hi : i < s.length.toNat) : (s.mem.readTab i).toNat < s.length.toNat := by
  rw [h.table hs i hi, h.length_eq hs]
  exact bitrev_lt_two_pow i _

/-! ## Effects that keep them -/

/-- An unconstructed unit needs only its cleared control state and the arrays' depth. -/
theorem State.inv_of_not_constructed {s : State} (hs : s.constructed = false)
    (hmem : s.mem.wf) (hclear : s.controlClear) : s.Inv where
  mem := hmem
  legal := by simp [hs]
  table := by simp [hs]
  clear := fun _ => hclear

theorem reset_inv : State.reset.Inv :=
  State.inv_of_not_constructed rfl reset_mem_wf ⟨rfl, rfl, rfl⟩

theorem State.Inv.answer {s : State} (h : s.Inv) (code : Status) (data : BitVec 64) :
    (s.answer code data).Inv :=
  ⟨h.mem, h.legal, h.table, h.clear⟩

theorem State.Inv.accept {s : State} (h : s.Inv) : s.accept.Inv :=
  ⟨h.mem, h.legal, h.table, h.clear⟩

theorem State.Inv.offer {s : State} (h : s.Inv) (x : HostInput) : (s.offer x).Inv :=
  ⟨h.mem, h.legal, h.table, h.clear⟩

theorem resetUnit_inv {s : State} (h : s.mem.wf) : (resetUnit s).Inv :=
  State.inv_of_not_constructed rfl (Memory.forget_wf h _ _) ⟨rfl, rfl, rfl⟩

theorem destroy_inv {s : State} (h : s.mem.wf) : (destroy s).Inv :=
  State.inv_of_not_constructed rfl (Memory.forget_wf h _ _) ⟨rfl, rfl, rfl⟩

theorem clearControl_inv {s : State} (h : s.mem.wf) : (clearControl s).Inv :=
  State.inv_of_not_constructed rfl h ⟨rfl, rfl, rfl⟩

/-- The length and its logarithm after a CONSTRUCT of length `2^k`. -/
theorem construct_length_log2n {L : BitVec 32} {k : Nat} (hk : k ≤ 15) (hL : L.toNat = 2 ^ k)
    (s : State) :
    (construct L s).length.toNat = 2 ^ k ∧ (construct L s).log2n.toNat = k := by
  have hle : 2 ^ k ≤ 2 ^ 15 := Nat.pow_le_pow_right two_pos hk
  constructor
  · rw [construct_length, BitVec.extractLsb'_toNat, hL, Nat.shiftRight_zero,
      Nat.mod_eq_of_lt (by omega)]
  · rw [construct_log2n, hL, Nat.log2_two_pow, BitVec.toNat_ofNat, Nat.mod_eq_of_lt (by omega)]

/-- A legal CONSTRUCT establishes the invariants, whatever the arrays held before. -/
theorem construct_inv {L : BitVec 32} {s : State} (h : s.mem.wf) (hL : validLength L = true) :
    (construct L s).Inv := by
  obtain ⟨k, hk1, hk15, hpow⟩ := (validLength_iff L).mp hL
  obtain ⟨hlen, hlog⟩ := construct_length_log2n hk15 hpow s
  refine ⟨Memory.drawBuffers_wf (buildTable_wf h _) _ _, fun _ => ⟨?_, ?_⟩, fun _ i hi => ?_, ?_⟩
  · rwa [hlog]
  · rw [hlen, hlog]
  · rw [hlog, construct_mem, Memory.readTab_drawBuffers, hpow]
    exact holdsBitrev_buildTable h hk15 i (hlen ▸ hi)
  · simp

/-- A transform writes neither the length nor the table. -/
theorem transformed_inv {s : State} (h : s.Inv) (hs : s.constructed = true) (inv : Bool)
    (payload : List Sample) : (s.transformed inv payload).Inv where
  mem := transform_wf h.mem _ _ _ _
  legal := h.legal
  table := fun _ i hi => by
    have hread : (s.transformed inv payload).mem.readTab i = s.mem.readTab i :=
      congrArg (·.getD i 0#16) (transform_tab ..)
    rw [hread]
    exact h.table hs i hi
  clear := fun hc => by cases hs.symm.trans hc

/-! ## Steps -/

theorem exec_keeps_inv {i : Instr} {s t : State} (h : s.Inv) (he : exec i s = .next t) : t.Inv := by
  cases completes_of_exec he with
  | rejected code => exact h.answer code _
  | answered data => exact h.answer _ data
  | constructed L _ _ hL => exact (construct_inv h.mem hL).answer _ _
  | destroyed => exact (destroy_inv h.mem).answer _ _
  | cleared => exact (clearControl_inv h.mem).answer _ _
  | transformed inv cnt payload _ hs => exact (transformed_inv h hs inv payload).answer _ _

/-- Settles O58: a step is idle, a reset, a rejection or a command, and each keeps the invariants. -/
theorem stepKeepsInvariant : Obligations.StepKeepsInvariant := by
  intro s t h ht
  rcases step_cases s with
    ⟨-, he⟩ | ⟨rest, -, he⟩ | ⟨r, rest, why, -, -, he⟩ | ⟨r, rest, i, -, -, he⟩
  · cases he.symm.trans ht
    exact h
  · cases he.symm.trans ht
    exact resetUnit_inv h.accept.mem
  · cases he.symm.trans ht
    exact h.accept.answer _ _
  · exact exec_keeps_inv h.accept (he.symm.trans ht)

/-- Settles O59: unconstructed, cleared control state, full arrays. -/
theorem resetMeetsInvariant : Obligations.ResetMeetsInvariant := reset_inv

theorem State.Inv.transformInBounds {s : State} (h : s.Inv) (hs : s.constructed = true) :
    transformInBounds s.length.toNat s.mem = true := by
  simp only [Machine.transformInBounds, Bool.and_eq_true, decide_eq_true_eq, List.all_eq_true,
    List.mem_range, hasWord]
  exact ⟨h.length_le hs, fun i hi => (h.readTab_lt hs hi).trans_le (h.length_le hs)⟩

theorem transformCommand_goes_on {s : State} (h : s.Inv) (inv : Bool) (cnt : BitVec 32)
    (payload : List Sample) : ∃ t, transformCommand inv cnt payload s = .next t := by
  rcases transformCommand_cases inv cnt payload s with
    ⟨-, he⟩ | ⟨-, -, he⟩ | ⟨-, -, -, -, he⟩ | ⟨hs, -, -, hout, -⟩
  · exact ⟨_, he⟩
  · exact ⟨_, he⟩
  · exact ⟨_, he⟩
  · cases (h.transformInBounds hs).symm.trans hout

theorem readResult_goes_on {s : State} (h : s.Inv) (word : BufWord) (index : BitVec 32) :
    ∃ t, readResult word index s = .next t := by
  rcases readResult_cases word index s with
    ⟨-, he⟩ | ⟨-, -, he⟩ | ⟨-, -, -, he⟩ | ⟨hs, hlt, hout, -⟩
  · exact ⟨_, he⟩
  · exact ⟨_, he⟩
  · exact ⟨_, he⟩
  · exact absurd (hlt.trans_le (h.length_le hs)) hout.not_gt

theorem exec_goes_on {s : State} (h : s.Inv) (i : Instr) : ∃ t, exec i s = .next t := by
  cases i with
  | construct L =>
    rcases execConstruct_cases L s with ⟨-, he⟩ | ⟨-, -, he⟩ | ⟨-, -, he⟩ <;> exact ⟨_, he⟩
  | destroy => exact ⟨_, rfl⟩
  | forward cnt payload => exact transformCommand_goes_on h false cnt payload
  | inverse cnt payload => exact transformCommand_goes_on h true cnt payload
  | resultRe index => exact readResult_goes_on h _ index
  | resultIm index => exact readResult_goes_on h _ index
  | ispow2 x => exact ⟨_, rfl⟩
  | isqrt x => exact ⟨_, rfl⟩

theorem State.Inv.goesOn {s : State} (h : s.Inv) : s.goesOn := by
  rcases step_cases s with
    ⟨-, he⟩ | ⟨rest, -, he⟩ | ⟨r, rest, why, -, -, he⟩ | ⟨r, rest, i, -, -, he⟩
  · exact ⟨_, he⟩
  · exact ⟨_, he⟩
  · exact ⟨_, he⟩
  · obtain ⟨t, ht⟩ := exec_goes_on h.accept i
    exact ⟨t, he.trans ht⟩

theorem Reachable.inv {s : State} (h : Reachable s) : s.Inv := by
  induction h with
  | reset => exact reset_inv
  | offer x _ ih => exact ih.offer x
  | step _ ht ih => exact stepKeepsInvariant _ _ ih ht

/-- Settles O60: the one fault needs a word beyond the arrays, which the invariants rule out, and
every reachable state meets them. -/
theorem reachableStatesGoOn : Obligations.ReachableStatesGoOn :=
  ⟨fun _ h => ⟨h.goesOn, h.offer⟩, fun _ hr => ⟨hr.inv, hr.inv.goesOn⟩⟩

end Sys2Proof.Machine
end

section
/-! PROOF. The frames of the commands (10_state R34 item 5, R35), from what a command can do. -/

namespace Sys2Proof.Machine

/-- Settles O50: of the things a command can do, only answering is left for these four. -/
theorem readOnlyCommandsFrame : Obligations.ReadOnlyCommandsFrame := by
  intro i s t hi he
  cases completes_of_exec he with
  | rejected => rfl
  | answered => rfl
  | constructed L hc => simp [hc] at hi
  | destroyed hd => simp [hd] at hi
  | cleared hd => simp [hd] at hi
  | transformed inv cnt payload ht => cases inv <;> simp [ht, transformInstr] at hi

/-- A transform writes no buffer word from the length on (10_state R34 item 5). -/
theorem State.Inv.transformed_above {s : State} (h : s.Inv) (hs : s.constructed = true) (inv : Bool)
    {payload : List Sample} (hlen : payload.length = s.length.toNat) {a : Nat}
    (ha : s.length.toNat ≤ a) :
    (s.transformed inv payload).mem.readRe a = s.mem.readRe a ∧
      (s.transformed inv payload).mem.readIm a = s.mem.readIm a :=
  Memory.readSample_eq_iff.mp <|
    readSample_transform_above h.mem inv _ (h.length_le hs) payload ha fun _ hi =>
      h.readTab_lt hs (hlen ▸ hi)

/-- Settles O51: a rejected transform only answers; an accepted one loads, passes and scales below the
length, and answers OK. -/
theorem transformCommandsFrame : Obligations.TransformCommandsFrame := by
  intro i s t h hi he
  cases completes_of_exec he with
  | rejected => simp [State.answer]
  | answered => simp [State.answer]
  | constructed L hc => simp [hc] at hi
  | destroyed hd => simp [hd] at hi
  | cleared hd => simp [hd] at hi
  | transformed inv cnt payload _ hs _ hlen =>
    have htab : ∀ a, (s.transformed inv payload).mem.readTab a = s.mem.readTab a := fun a =>
      congrArg (·.getD a 0#16) (transform_tab ..)
    exact ⟨rfl, rfl, rfl, rfl, rfl, htab, fun a ha => h.transformed_above hs inv hlen ha,
      fun hr => absurd rfl hr⟩

/-- Settles O52: CONSTRUCT builds and draws below its length, DESTROY draws below the
length it finds. -/
theorem lifecycleCommandsFrame : Obligations.LifecycleCommandsFrame := by
  refine ⟨fun L s t he => ?_, fun s t he => ?_⟩
  · rcases execConstruct_cases L s with ⟨-, hc⟩ | ⟨-, hL, hc⟩ | ⟨-, -, hc⟩ <;>
      cases hc.symm.trans he
    · exact ⟨rfl, fun _ _ => ⟨rfl, rfl, rfl⟩, fun _ => rfl⟩
    · obtain ⟨k, -, -, hk⟩ := (validLength_iff L).mp hL
      have hne : L.toNat ≠ 0 := hk ▸ pow_ne_zero k two_ne_zero
      exact ⟨rfl, fun a ha => s.mem.sameAt_construct_above s.draws hne ha, fun hr => absurd rfl hr⟩
    · exact ⟨rfl, fun _ _ => ⟨rfl, rfl, rfl⟩, fun _ => rfl⟩
  · rcases execDestroy_cases s with ⟨-, hd⟩ | ⟨-, hd⟩ <;> cases hd.symm.trans he
    · exact ⟨rfl, fun a ha => s.mem.sameAt_forget_above s.draws ha⟩
    · exact ⟨rfl, fun _ _ => ⟨rfl, rfl, rfl⟩⟩

/-- Settles O53: answering and transforming keep all five, and what is left is a CONSTRUCT or a
DESTROY. -/
theorem onlyLifecycleCommandsChangeInstance : Obligations.OnlyLifecycleCommandsChangeInstance := by
  intro i s t he hch
  cases completes_of_exec he with
  | rejected => simp at hch
  | answered => simp at hch
  | constructed L hi hs => exact .inl ⟨L, hi, hs, rfl⟩
  | destroyed hi => exact .inr ⟨hi, rfl⟩
  | cleared hi => exact .inr ⟨hi, rfl⟩
  | transformed inv cnt payload => simp [State.transformed, transform_tab] at hch

end Sys2Proof.Machine
end

section
/-! PROOF. The domain label is written and never read (10_state R29). A meaning that does not read it
is built from the ends of a command by choices that do not read it. -/

namespace Sys2Proof.Machine

/-- With another label in the state, `f` gives the same next state but for the label. -/
def DomainUnread (f : State → Host.Outcome State Fault Refusal) : Prop :=
  ∀ (s t : State) (d : Domain), f s = .next t →
    ∃ t', f { s with domain := d } = .next t' ∧ { t' with domain := t.domain } = t

theorem domainUnread_reject (code : Status) : DomainUnread (reject code) := by
  intro s t d h
  cases h
  exact ⟨_, rfl, rfl⟩

/-- A response that carries any data which does not depend on the label. -/
theorem domainUnread_respond {data : State → BitVec 64}
    (hdata : ∀ s d, data { s with domain := d } = data s) :
    DomainUnread fun s => respond (data s) s := by
  intro s t d h
  cases h
  refine ⟨_, rfl, ?_⟩
  rw [hdata]

/-- What overwrites the label cannot depend on it. -/
theorem domainUnread_of_eq {f : State → Host.Outcome State Fault Refusal}
    (hf : ∀ s d, f { s with domain := d } = f s) : DomainUnread f :=
  fun s t d h => ⟨t, (hf s d).trans h, rfl⟩

theorem domainUnread_ite {P : State → Prop} [DecidablePred P]
    {f g : State → Host.Outcome State Fault Refusal}
    (hP : ∀ s d, P { s with domain := d } ↔ P s) (hf : DomainUnread f) (hg : DomainUnread g) :
    DomainUnread fun s => if P s then f s else g s := by
  intro s t d h
  dsimp only at h ⊢
  by_cases hp : P s
  · rw [if_pos hp] at h
    rw [if_pos ((hP s d).mpr hp)]
    exact hf s t d h
  · rw [if_neg hp] at h
    rw [if_neg (mt (hP s d).mp hp)]
    exact hg s t d h

theorem domainUnread_fault : DomainUnread fun _ => .fault .noSuchWord :=
  domainUnread_of_eq fun _ _ => rfl

theorem domainUnread_execConstruct (L : BitVec 32) : DomainUnread (execConstruct L) :=
  domainUnread_ite (fun _ _ => Iff.rfl) (domainUnread_reject _) <|
    domainUnread_ite (fun _ _ => Iff.rfl) (domainUnread_of_eq fun _ _ => rfl) (domainUnread_reject _)

theorem domainUnread_execDestroy : DomainUnread execDestroy :=
  domainUnread_of_eq fun _ _ => rfl

theorem domainUnread_transformCommand (inv : Bool) (cnt : BitVec 32) (payload : List Sample) :
    DomainUnread (transformCommand inv cnt payload) :=
  domainUnread_ite (fun _ _ => Iff.rfl) (domainUnread_reject _) <|
    domainUnread_ite (fun _ _ => Iff.rfl) (domainUnread_reject _) <|
      domainUnread_ite (fun _ _ => Iff.rfl) (domainUnread_reject _) <|
        domainUnread_ite (fun _ _ => Iff.rfl) (domainUnread_of_eq fun _ _ => rfl) domainUnread_fault

theorem domainUnread_readResult {word : State → BufWord}
    (hword : ∀ s d, word { s with domain := d } = word s) (index : BitVec 32) :
    DomainUnread fun s => readResult (word s) index s :=
  domainUnread_ite (fun _ _ => Iff.rfl) (domainUnread_reject _) <|
    domainUnread_ite (fun _ _ => Iff.rfl) (domainUnread_reject _) <|
      domainUnread_ite (fun _ _ => Iff.rfl) (domainUnread_respond hword) domainUnread_fault

theorem domainUnread_exec (i : Instr) : DomainUnread (exec i) := by
  cases i with
  | construct L => exact domainUnread_execConstruct L
  | destroy => exact domainUnread_execDestroy
  | forward cnt payload => exact domainUnread_transformCommand false cnt payload
  | inverse cnt payload => exact domainUnread_transformCommand true cnt payload
  | resultRe index => exact domainUnread_readResult (fun _ _ => rfl) index
  | resultIm index => exact domainUnread_readResult (fun _ _ => rfl) index
  | ispow2 x => exact domainUnread_respond fun _ _ => rfl
  | isqrt x => exact domainUnread_respond fun _ _ => rfl

/-- Settles O54: no meaning reads the label, and only the effects of the four commands write it. -/
theorem domainIsWrittenNeverRead : Obligations.DomainIsWrittenNeverRead := by
  refine ⟨domainUnread_exec, fun i s t he hch => ?_⟩
  cases completes_of_exec he with
  | rejected => exact absurd rfl hch
  | answered => exact absurd rfl hch
  | constructed L hi => exact .inl ⟨rfl, .inl ⟨L, hi⟩⟩
  | destroyed hi => exact .inl ⟨rfl, .inr (.inl hi)⟩
  | cleared hi => exact .inl ⟨rfl, .inr (.inl hi)⟩
  | transformed inv cnt payload hi =>
    cases inv with
    | false => exact .inr ⟨rfl, cnt, payload, hi⟩
    | true => exact .inl ⟨rfl, .inr (.inr ⟨cnt, payload, hi⟩)⟩

end Sys2Proof.Machine
end

section
/-! PROOF. What a command answers after power-up (10_state R37) and what a read answers after a
CONSTRUCT (10_state R25). -/

namespace Sys2Proof.Machine

theorem readResult_of_not_constructed {s : State} (hs : s.constructed = false) (word : BufWord)
    (index : BitVec 32) : readResult word index s = .next (s.answer .errState 0#64) := by
  simp [readResult, hs, reject_eq]

theorem readResult_of_lt {s : State} (hs : s.constructed = true) (word : BufWord)
    {index : BitVec 32} (hlt : index.toNat < s.length.toNat) (hmax : index.toNat < Config.nMax) :
    readResult word index s = .next (s.answer .ok word) := by
  simp [readResult, hs, hlt.not_ge, hasWord, hmax, respond_eq]

theorem transformCommand_of_not_constructed {s : State} (hs : s.constructed = false) (inv : Bool)
    (cnt : BitVec 32) (payload : List Sample) :
    transformCommand inv cnt payload s = .next (s.answer .errState 0#64) := by
  simp [transformCommand, hs, reject_eq]

/-- In an unconstructed unit CONSTRUCT succeeds exactly for the fifteen legal lengths. -/
theorem execConstruct_of_not_constructed {s : State} (hs : s.constructed = false) (L : BitVec 32) :
    ∃ t x, execConstruct L s = .next t ∧ t.response = some x ∧
      (x.status = .ok ↔ ∃ k, 1 ≤ k ∧ k ≤ 15 ∧ L.toNat = 2 ^ k) := by
  rw [← validLength_iff]
  rcases execConstruct_cases L s with ⟨hs', -⟩ | ⟨-, hL, he⟩ | ⟨-, hL, he⟩
  · cases hs.symm.trans hs'
  · exact ⟨_, _, he, rfl, by simp [hL]⟩
  · exact ⟨_, _, he, rfl, by simp [hL]⟩

/-- Settles O56: every field by definition; each command that needs a constructed unit is
rejected. -/
theorem resetStateValues : Obligations.ResetStateValues := by
  refine ⟨rfl, rfl, rfl, rfl, rfl, rfl, fun i => ?_⟩
  have hs : State.reset.constructed = false := rfl
  cases i with
  | construct L =>
    obtain ⟨t, x, he, hx, hok⟩ := execConstruct_of_not_constructed hs L
    exact ⟨t, x, he, hx, by simpa using hok⟩
  | destroy => exact ⟨_, _, rfl, rfl, by simp⟩
  | forward cnt payload =>
    exact ⟨_, _, transformCommand_of_not_constructed hs false cnt payload, rfl, by simp⟩
  | inverse cnt payload =>
    exact ⟨_, _, transformCommand_of_not_constructed hs true cnt payload, rfl, by simp⟩
  | resultRe index =>
    exact ⟨_, _, readResult_of_not_constructed hs (State.reset.mem.readRe index.toNat) index, rfl,
      by simp⟩
  | resultIm index =>
    exact ⟨_, _, readResult_of_not_constructed hs (State.reset.mem.readIm index.toNat) index, rfl,
      by simp⟩
  | ispow2 x => exact ⟨_, _, rfl, rfl, by simp⟩
  | isqrt x => exact ⟨_, _, rfl, rfl, by simp⟩

/-- After a CONSTRUCT each buffer word below its length is a free value of its draw. -/
theorem construct_reads {L : BitVec 32} {s : State} (h : s.mem.wf) {i : Nat} (hi : i < L.toNat)
    (hmax : i < Config.nMax) :
    (construct L s).mem.readRe i = Config.freeRe s.draws i ∧
      (construct L s).mem.readIm i = Config.freeIm s.draws i := by
  have hwf := buildTable_wf h L.toNat
  exact ⟨(Memory.readRe_drawBuffers hwf _ _ _ hmax).trans (if_pos hi),
    (Memory.readIm_drawBuffers hwf _ _ _ hmax).trans (if_pos hi)⟩

/-- Settles O31: the reads below the new length are in range and return the draw; a read changes only
the response port, so a second one finds the same words and the same response already there. -/
theorem constructDrawsBuffers : Obligations.ConstructDrawsBuffers := by
  intro L s t h he hs ht
  rcases execConstruct_cases L s with ⟨hs', -⟩ | ⟨-, hL, hc⟩ | ⟨-, -, hc⟩
  · cases hs.symm.trans hs'
  · cases hc.symm.trans he
    refine ⟨rfl, fun index hi => ?_⟩
    obtain ⟨k, -, hk15, hk⟩ := (validLength_iff L).mp hL
    obtain ⟨hlen, -⟩ := construct_length_log2n hk15 hk s
    have hlt : index.toNat < (construct L s).length.toNat := by omega
    have hmax : index.toNat < Config.nMax :=
      hlt.trans_le ((construct_inv h hL).length_le rfl)
    obtain ⟨hre, him⟩ := construct_reads h hi hmax
    refine ⟨_, _, readResult_of_lt rfl _ hlt hmax, ?_, readResult_of_lt rfl _ hlt hmax,
      readResult_of_lt rfl _ hlt hmax, ?_, readResult_of_lt rfl _ hlt hmax⟩
    · rw [answer_response, answer_mem, hre]
    · rw [answer_response, answer_mem, him]
  · cases hc.symm.trans he
    cases hs.symm.trans ht

end Sys2Proof.Machine
end

section
/-! PROOF. What waits behind an input does not touch it (20_memory R58): every meaning gives, in the
state with one more input presented, its own outcome with that input still waiting. -/

namespace Sys2Proof.Machine

/-- The outcome with one more input presented in its next state. -/
def withOffered (x : HostInput) : Host.Outcome State Fault Refusal → Host.Outcome State Fault Refusal
  | .next t => .next (t.offer x)
  | .fault r => .fault r
  | .refused r => .refused r

theorem execConstruct_offer (L : BitVec 32) (s : State) (x : HostInput) :
    execConstruct L (s.offer x) = withOffered x (execConstruct L s) := by
  simp only [execConstruct, apply_ite (withOffered x)]
  rfl

theorem execDestroy_of_constructed {s : State} (hs : s.constructed = true) :
    execDestroy s = .next ((destroy s).answer .ok 0#64) := by
  rw [execDestroy, if_pos hs, respond_eq]

theorem execDestroy_of_not_constructed {s : State} (hs : s.constructed = false) :
    execDestroy s = .next ((clearControl s).answer .ok 0#64) := by
  rw [execDestroy, hs, if_neg Bool.false_ne_true, respond_eq]

theorem execDestroy_offer (s : State) (x : HostInput) :
    execDestroy (s.offer x) = withOffered x (execDestroy s) := by
  cases hs : s.constructed
  · rw [execDestroy_of_not_constructed hs, execDestroy_of_not_constructed (s := s.offer x) hs]
    rfl
  · rw [execDestroy_of_constructed hs, execDestroy_of_constructed (s := s.offer x) hs]
    rfl

theorem transformCommand_offer (inv : Bool) (cnt : BitVec 32) (payload : List Sample) (s : State)
    (x : HostInput) :
    transformCommand inv cnt payload (s.offer x) =
      withOffered x (transformCommand inv cnt payload s) := by
  simp only [transformCommand, apply_ite (withOffered x)]
  rfl

theorem readResult_offer (word : BufWord) (index : BitVec 32) (s : State) (x : HostInput) :
    readResult word index (s.offer x) = withOffered x (readResult word index s) := by
  simp only [readResult, apply_ite (withOffered x)]
  rfl

theorem exec_offer (i : Instr) (s : State) (x : HostInput) :
    exec i (s.offer x) = withOffered x (exec i s) := by
  cases i with
  | construct L => exact execConstruct_offer L s x
  | destroy => exact execDestroy_offer s x
  | forward cnt payload => exact transformCommand_offer false cnt payload s x
  | inverse cnt payload => exact transformCommand_offer true cnt payload s x
  | resultRe index => exact readResult_offer _ index s x
  | resultIm index => exact readResult_offer _ index s x
  | ispow2 y => rfl
  | isqrt y => rfl

theorem runInput_offer (y : HostInput) (s : State) (x : HostInput) :
    runInput y (s.offer x) = withOffered x (runInput y s) := by
  cases y with
  | reset => rfl
  | command r =>
    simp only [runInput, runCommand]
    cases decode r with
    | command i => exact exec_offer i s x
    | reserved why => rfl

theorem step_of_inputs_eq_cons {s : State} {y : HostInput} {rest : List HostInput}
    (h : s.inputs = y :: rest) : step s = runInput y s.accept := by
  rw [step, h]

/-- An input presented last stays when the oldest is taken. -/
theorem State.accept_offer {s : State} (h : s.inputs ≠ []) (x : HostInput) :
    (s.offer x).accept = s.accept.offer x := by
  simp only [State.accept, State.offer, List.tail_append_of_ne_nil h]

/-- Settles O8: the oldest input is the same with one more behind it, and no input's meaning reads
what waits. -/
theorem laterInputsDoNotMatter : Obligations.LaterInputsDoNotMatter := by
  intro s t x hne ht
  obtain ⟨y, rest, hin⟩ := List.exists_cons_of_ne_nil hne
  have hoff : (s.offer x).inputs = y :: (rest ++ [x]) := by simp [hin]
  rw [step_of_inputs_eq_cons hoff, State.accept_offer hne, runInput_offer,
    ← step_of_inputs_eq_cons hin, ht]
  rfl

end Sys2Proof.Machine
end

section
/-! PROOF. Butterflies on different positions commute (45_transform_engine R180), in every memory: a
write beyond an array's end is dropped in either order. -/

namespace Sys2Proof.Machine

theorem Memory.readSample_writeSample_of_ne (m : Memory) {i j : Nat} (h : i ≠ j) (c : Cplx) :
    (m.writeSample i c).readSample j = m.readSample j := by
  simp [Memory.writeSample, Memory.readSample, Memory.readRe_writeRe, Memory.readIm_writeIm, h]

theorem Memory.writeSample_comm (m : Memory) {i j : Nat} (h : i ≠ j) (c d : Cplx) :
    (m.writeSample i c).writeSample j d = (m.writeSample j d).writeSample i c := by
  simp only [Memory.writeSample, Memory.writeRe, Memory.writeIm, List.set_comm _ _ h]

/-- Two butterflies of a pass that share a position are the same one. -/
theorem eq_of_touches {N s : Nat} (hs : 1 ≤ s) {a b : Nat × Nat} (ha : a ∈ butterflies N s)
    (hb : b ∈ butterflies N s) {p : Nat} (hap : touches s a p) (hbp : touches s b p) : a = b := by
  obtain ⟨hag, haj⟩ := (touches_iff hs ha p).mp hap
  obtain ⟨hbg, hbj⟩ := (touches_iff hs hb p).mp hbp
  exact Prod.ext (hag.trans hbg.symm) (haj.trans hbj.symm)

/-- Neither of two butterflies without a common position reads or overwrites what the other writes. -/
theorem butterflyAt_comm (inv : Bool) (s : Nat) (m : Memory) {a b : Nat × Nat}
    (hdis : ∀ p q, touches s a p → touches s b q → p ≠ q) :
    butterflyAt inv s (butterflyAt inv s m a) b = butterflyAt inv s (butterflyAt inv s m b) a := by
  have huu := hdis _ _ (.inl rfl) (.inl rfl)
  have hul := hdis _ _ (.inl rfl) (.inr rfl)
  have hlu := hdis _ _ (.inr rfl) (.inl rfl)
  have hll := hdis _ _ (.inr rfl) (.inr rfl)
  simp only [butterflyAt, Memory.readSample_writeSample_of_ne _ huu,
    Memory.readSample_writeSample_of_ne _ hul, Memory.readSample_writeSample_of_ne _ hlu,
    Memory.readSample_writeSample_of_ne _ hll, Memory.readSample_writeSample_of_ne _ huu.symm,
    Memory.readSample_writeSample_of_ne _ hul.symm, Memory.readSample_writeSample_of_ne _ hlu.symm,
    Memory.readSample_writeSample_of_ne _ hll.symm]
  rw [Memory.writeSample_comm _ hlu, Memory.writeSample_comm _ hll, Memory.writeSample_comm _ huu,
    Memory.writeSample_comm _ hul]

/-- Settles O36: a fold of pairwise commuting steps does not see their order. -/
theorem butterflyOrderIsIrrelevant : Obligations.ButterflyOrderIsIrrelevant := by
  intro inv n s order m hs _ hperm
  refine hperm.foldl_eq' (fun a ha b hb m => ?_) m
  by_cases hab : a = b
  · rw [hab]
  · refine butterflyAt_comm inv s m fun p q hp hq hpq => hab ?_
    subst hpq
    exact eq_of_touches hs (hperm.subset ha) (hperm.subset hb) hp hq

end Sys2Proof.Machine
end

section
/-! PROOF. Repeating a command (20_memory R55). No meaning reads the response port; a repeated DESTROY
finds the control state clear; and a repeated transform loads over everything the first one left,
because the targets of the load are all the positions below the length. -/

namespace Sys2Proof.Machine

/-! ## The load leaves nothing of what stood below the length -/

theorem list_eq_of_getD_eq {α : Type} {l l' : List α} (d : α) (hlen : l.length = l'.length)
    (h : ∀ i, l.getD i d = l'.getD i d) : l = l' := by
  refine List.ext_getElem hlen fun i hi hi' => ?_
  rw [← List.getD_eq_getElem l d hi, h, List.getD_eq_getElem l' d hi']

/-- Memories of full depth are equal when every word is. -/
theorem Memory.eq_of_sameAt {m m' : Memory} (h : m.wf) (h' : m'.wf) (hsame : ∀ a, m'.SameAt m a) :
    m' = m := by
  obtain ⟨htab, hre, him⟩ := h
  obtain ⟨htab', hre', him'⟩ := h'
  have etab : m'.tab = m.tab := list_eq_of_getD_eq _ (htab'.trans htab.symm) fun a => (hsame a).1
  have ere : m'.re = m.re := list_eq_of_getD_eq _ (hre'.trans hre.symm) fun a => (hsame a).2.1
  have eim : m'.im = m.im := list_eq_of_getD_eq _ (him'.trans him.symm) fun a => (hsame a).2.2
  calc m' = ⟨m'.tab, m'.re, m'.im⟩ := rfl
    _ = m := by rw [etab, ere, eim]

/-- A bit `b` on top of an `n`-bit index becomes the lowest bit of its reversal. -/
theorem bitrev_top_add {b r n : Nat} (hb : b < 2) (hr : r < 2 ^ n) :
    bitrev (b * 2 ^ n + r) (n + 1) = 2 * bitrev r n + b := by
  induction n generalizing r with
  | zero =>
    obtain rfl : r = 0 := by omega
    simp [bitrev, Nat.mod_eq_of_lt hb]
  | succ n ih =>
    have hpow : b * 2 ^ (n + 1) = 2 * (b * 2 ^ n) := by ring
    have hmod : (b * 2 ^ (n + 1) + r) % 2 = r % 2 := by omega
    have hdiv : (b * 2 ^ (n + 1) + r) / 2 = b * 2 ^ n + r / 2 := by omega
    have hlow := ih (r := r / 2) (by omega)
    rw [bitrev_succ, hmod, hdiv, hlow, bitrev_succ r]
    ring

/-- Reversing twice gives the index back. -/
theorem bitrev_bitrev {i n : Nat} (hi : i < 2 ^ n) : bitrev (bitrev i n) n = i := by
  induction n generalizing i with
  | zero =>
    obtain rfl : i = 0 := by omega
    rfl
  | succ n ih =>
    have hupper := ih (i := i / 2) (by omega)
    rw [bitrev_succ i, bitrev_top_add (Nat.mod_lt i two_pos) (bitrev_lt_two_pow _ n), hupper,
      Nat.div_add_mod]

theorem bitrev_inj {i j n : Nat} (hi : i < 2 ^ n) (hj : j < 2 ^ n)
    (h : bitrev i n = bitrev j n) : i = j := by
  rw [← bitrev_bitrev hi, h, bitrev_bitrev hj]

@[simp] theorem toInt_sext64 (v : BitVec 32) : (sext64 v).toInt = v.toInt :=
  BitVec.toInt_signExtend_of_le (by decide)

section Load
variable {m : Memory} {n : Nat} {payload : List Sample}

/-- With the bit-reversal table the load gathers: position `p` gets sample `bitrev(p, n)`
(42_permutation_table R125). -/
theorem readSample_permuteLoad (h : m.wf) (hn : n ≤ 15) (htab : m.HoldsBitrev n)
    (hlen : payload.length = 2 ^ n) {p : Nat} (hp : p < 2 ^ n) :
    (permuteLoad payload m).readSample p = inputSample payload (bitrev p n) := by
  have hi : bitrev p n < 2 ^ n := bitrev_lt_two_pow p n
  have hdepth : 2 ^ n ≤ Config.nMax := Nat.pow_le_pow_right two_pos hn
  have htarget : (m.readTab (bitrev p n)).toNat = p := (htab _ hi).trans (bitrev_bitrev hp)
  have hinj : ∀ i j, i < j → j < payload.length → (m.readTab i).toNat ≠ (m.readTab j).toNat := by
    intro i j hij hj heq
    rw [htab i (by omega), htab j (by omega)] at heq
    exact hij.ne (bitrev_inj (by omega) (by omega) heq)
  have hload := permuteLoad_target h payload hinj (bitrev p n) (hlen ▸ hi)
    (htarget.trans_lt (hp.trans_le hdepth))
  rw [htarget] at hload
  obtain ⟨hre, him⟩ := hload
  rw [Memory.readSample, hre, him, toInt_sext64, toInt_sext64, inputSample,
    List.getD_eq_getElem _ _ (hlen ▸ hi)]

theorem readSample_permuteLoad_above (htab : m.HoldsBitrev n) (hlen : payload.length = 2 ^ n)
    {p : Nat} (hp : 2 ^ n ≤ p) : (permuteLoad payload m).readSample p = m.readSample p :=
  Memory.readSample_eq_iff.mpr <| permuteLoad_untouched m payload p fun i hi => by
    rw [htab i (hlen ▸ hi)]
    exact ((bitrev_lt_two_pow i n).trans_le hp).ne

/-- The load keeps nothing that stood below `2^n`: it gives the same memory over any contents that
agree in the table and from `2^n` on. -/
theorem permuteLoad_eq_of_agree {m' : Memory} (h : m.wf) (h' : m'.wf) (hn : n ≤ 15)
    (htab : m.HoldsBitrev n) (hsame : m'.tab = m.tab)
    (habove : ∀ p, 2 ^ n ≤ p → m'.readSample p = m.readSample p)
    (hlen : payload.length = 2 ^ n) : permuteLoad payload m' = permuteLoad payload m := by
  have hread : m'.readTab = m.readTab := funext fun i => congrArg (·.getD i 0#16) hsame
  have htab' : m'.HoldsBitrev n := fun i hi => hread ▸ htab i hi
  refine Memory.eq_of_sameAt (permuteLoad_wf h _) (permuteLoad_wf h' _) fun p => ⟨?_, ?_⟩
  · simp only [Memory.readTab, permuteLoad_tab, hsame]
  · refine Memory.readSample_eq_iff.mp ?_
    rcases Nat.lt_or_ge p (2 ^ n) with hp | hp
    · rw [readSample_permuteLoad h' hn htab' hlen hp, readSample_permuteLoad h hn htab hlen hp]
    · rw [readSample_permuteLoad_above htab' hlen hp, readSample_permuteLoad_above htab hlen hp,
        habove p hp]

end Load

/-! ## Repeating -/

/-- The contents before a transform enter it only through the load. -/
theorem transform_congr {m m' : Memory} {payload : List Sample}
    (h : permuteLoad payload m' = permuteLoad payload m) (inv : Bool) (N n : Nat) :
    transform inv N n payload m' = transform inv N n payload m := by
  rw [transform, transform, h]

/-- A transform over what the same transform left gives the same state. -/
theorem State.Inv.transformed_transformed {s : State} (h : s.Inv) (hs : s.constructed = true)
    (inv : Bool) {payload : List Sample} (hlen : payload.length = s.length.toNat) :
    (s.transformed inv payload).transformed inv payload = s.transformed inv payload := by
  have hpow := h.length_eq hs
  have htab : s.mem.HoldsBitrev s.log2n.toNat := fun i hi => h.table hs i (hpow ▸ hi)
  have hload : permuteLoad payload (s.transformed inv payload).mem = permuteLoad payload s.mem :=
    permuteLoad_eq_of_agree h.mem (transform_wf h.mem ..) (Nat.le_of_lt_succ s.log2n.isLt) htab
      (transform_tab ..)
      (fun p hp => Memory.readSample_eq_iff.mpr (h.transformed_above hs inv hlen (hpow ▸ hp)))
      (hlen.trans hpow)
  have hmem := transform_congr hload inv s.length.toNat s.log2n.toNat
  exact congrArg (fun m => { s with mem := m, domain := domainAfter inv }) hmem

theorem transformCommand_of_accepted {s : State} (h : s.Inv) (hs : s.constructed = true)
    (inv : Bool) {cnt : BitVec 32} {payload : List Sample} (hcnt : cnt.toNat = s.length.toNat)
    (hlen : payload.length = s.length.toNat) :
    transformCommand inv cnt payload s = .next ((s.transformed inv payload).answer .ok 0#64) := by
  simp [transformCommand, hs, hcnt, hlen, h.transformInBounds hs, respond_eq, State.transformed,
    State.answer]

theorem execDestroy_answer (s : State) (code : Status) (data : BitVec 64) :
    execDestroy (s.answer code data) = execDestroy s := by
  cases hs : s.constructed
  · rw [execDestroy_of_not_constructed hs,
      execDestroy_of_not_constructed (s := s.answer code data) hs]
    rfl
  · rw [execDestroy_of_constructed hs, execDestroy_of_constructed (s := s.answer code data) hs]
    rfl

/-- No meaning reads the response port, and each overwrites it. -/
theorem exec_answer (i : Instr) (s : State) (code : Status) (data : BitVec 64) :
    exec i (s.answer code data) = exec i s := by
  cases i with
  | destroy => exact execDestroy_answer s code data
  | _ => rfl

/-- Every command but CONSTRUCT, run again in the state it has left, leaves that state. -/
theorem exec_repeat {i : Instr} {s t : State} (h : s.Inv) (hi : ¬ ∃ L, i = .construct L)
    (he : exec i s = .next t) : exec i t = .next t := by
  cases completes_of_exec he with
  | rejected => exact (exec_answer ..).trans he
  | answered => exact (exec_answer ..).trans he
  | constructed L hc => exact absurd ⟨L, hc⟩ hi
  | destroyed hd =>
    subst hd
    rfl
  | cleared hd =>
    subst hd
    rfl
  | transformed inv cnt payload ht hs hcnt hlen =>
    rw [exec_answer, ht, exec_transformInstr,
      transformCommand_of_accepted (transformed_inv h hs inv payload) hs inv hcnt hlen,
      h.transformed_transformed hs inv hlen]

theorem execConstruct_of_constructed {s : State} (hs : s.constructed = true) (L : BitVec 32) :
    execConstruct L s = .next (s.answer .errState 0#64) := by
  rw [execConstruct, if_pos hs, reject_eq]

/-- Settles O55: the state a command leaves makes the same command leave it again, the frame of the
read-only commands, and the lifecycle check of CONSTRUCT. -/
theorem repeatingACommand : Obligations.RepeatingACommand :=
  ⟨fun i s t h hi he => ⟨exec_repeat h hi he, fun hread => readOnlyCommandsFrame i s t hread he⟩,
    fun _ L' _ _ _ ht => execConstruct_of_constructed ht L'⟩

end Sys2Proof.Machine
end

section
/-! PROOF. Decoding and encoding are inverse to each other (30_encoding R73, R80, R81), and the decoder
agrees with the opcode table (R75, R76). The decoder is inverted once, as the relation `DecodesTo`. -/

namespace Sys2Proof

/-! ## The two halves of `arg` that ISPOW2 tells apart (30_encoding R76) -/

@[simp] theorem upperHalf_append (hi lo : BitVec 16) :
    (hi ++ lo : BitVec 32).extractLsb' 16 16 = hi :=
  BitVec.extractLsb'_append_eq_left

@[simp] theorem lowerHalf_append (hi lo : BitVec 16) :
    (hi ++ lo : BitVec 32).extractLsb' 0 16 = lo :=
  BitVec.extractLsb'_append_eq_right

theorem append_halves (arg : BitVec 32) :
    (arg.extractLsb' 16 16 ++ arg.extractLsb' 0 16 : BitVec 32) = arg :=
  (BitVec.extractLsb'_append_extractLsb'_eq_extractLsb' rfl).trans BitVec.extractLsb'_eq_self

/-! ## Decoding an encoded command -/

theorem encode_framed {i : Instr} (h : i.wellFormed = true) : (encode i).framed = true := by
  cases i with
  | construct length => exact Laws.EncodeFramed.construct length h
  | destroy => exact Laws.EncodeFramed.destroy h
  | forward cnt payload => exact Laws.EncodeFramed.forward cnt payload h
  | inverse cnt payload => exact Laws.EncodeFramed.inverse cnt payload h
  | resultRe index => exact Laws.EncodeFramed.resultRe index h
  | resultIm index => exact Laws.EncodeFramed.resultIm index h
  | ispow2 x => exact Laws.EncodeFramed.ispow2 x h
  | isqrt x => exact Laws.EncodeFramed.isqrt x h

/-- The decoder reads a request through its opcode, its `arg` and its samples, and the encoder puts
each of them in place; only ISPOW2 cuts its operand out of `arg`. -/
theorem decode_encode (i : Instr) : decode (encode i) = .command i := by
  cases i with
  | forward cnt payload | inverse cnt payload => simp [decode, encode, Function.comp_def]
  | construct arg | resultRe arg | resultIm arg | isqrt arg => simp [decode, encode]
  | destroy => simp [decode, encode]
  | ispow2 x => simp [decode, encode]

/-- Settles O2: the fields of an encoded command read back. -/
theorem decodeInvertsEncode : Obligations.DecodeInvertsEncode :=
  fun i h => ⟨encode_framed h, decode_encode i⟩

theorem decode_and_encode_of_encode_eq {i : Instr} {r : Request} (h : encode i = r) :
    decode r = .command i ∧ encode i = r :=
  ⟨h ▸ decode_encode i, h⟩

/-- Settles O1: the words come from evaluating the encoder, and the decoder inverts it. -/
theorem specExampleWordsDecode : Obligations.SpecExampleWordsDecode := by
  refine ⟨?_, ?_, ?_, ?_, ?_, ?_, ?_, ?_, by decide, by decide⟩ <;>
    exact decode_and_encode_of_encode_eq (by decide)

/-! ## Everything the decoder can answer -/

/-- The decoder's answer with what leads to it: one case per line of 30_encoding R81, and the three
ways to be reserved (R78, R79). -/
inductive DecodesTo (r : Request) : Decoded → Prop where
  | construct (hop : r.cw.op = 0x01#8) : DecodesTo r (.command (.construct r.cw.arg))
  | destroy (hop : r.cw.op = 0x02#8) (harg : r.cw.arg = 0#32) : DecodesTo r (.command .destroy)
  | forward (hop : r.cw.op = 0x03#8) :
      DecodesTo r (.command (.forward r.cw.arg (r.beats.map Sample.ofBeat)))
  | inverse (hop : r.cw.op = 0x04#8) :
      DecodesTo r (.command (.inverse r.cw.arg (r.beats.map Sample.ofBeat)))
  | resultRe (hop : r.cw.op = 0x05#8) : DecodesTo r (.command (.resultRe r.cw.arg))
  | resultIm (hop : r.cw.op = 0x06#8) : DecodesTo r (.command (.resultIm r.cw.arg))
  | ispow2 (hop : r.cw.op = 0x07#8) (harg : r.cw.arg.extractLsb' 16 16 = 0#16) :
      DecodesTo r (.command (.ispow2 (r.cw.arg.extractLsb' 0 16)))
  | isqrt (hop : r.cw.op = 0x08#8) : DecodesTo r (.command (.isqrt r.cw.arg))
  | destroyBits (hop : r.cw.op = 0x02#8) (harg : r.cw.arg ≠ 0#32) :
      DecodesTo r (.reserved .argBits)
  | ispow2Bits (hop : r.cw.op = 0x07#8) (harg : r.cw.arg.extractLsb' 16 16 ≠ 0#16) :
      DecodesTo r (.reserved .argBits)
  | opcode (hop : r.cw.op.toNat = 0x00 ∨ 0x09 ≤ r.cw.op.toNat) : DecodesTo r (.reserved .opcode)

theorem decodesTo_decode (r : Request) : DecodesTo r (decode r) := by
  simp only [decode]
  split
  case h_1 hop => exact .construct (BitVec.eq_of_toNat_eq hop)
  case h_2 hop =>
    split
    next harg => exact .destroy (BitVec.eq_of_toNat_eq hop) harg
    next harg => exact .destroyBits (BitVec.eq_of_toNat_eq hop) harg
  case h_3 hop => exact .forward (BitVec.eq_of_toNat_eq hop)
  case h_4 hop => exact .inverse (BitVec.eq_of_toNat_eq hop)
  case h_5 hop => exact .resultRe (BitVec.eq_of_toNat_eq hop)
  case h_6 hop => exact .resultIm (BitVec.eq_of_toNat_eq hop)
  case h_7 hop =>
    split
    next harg => exact .ispow2 (BitVec.eq_of_toNat_eq hop) harg
    next harg => exact .ispow2Bits (BitVec.eq_of_toNat_eq hop) harg
  case h_8 hop => exact .isqrt (BitVec.eq_of_toNat_eq hop)
  case h_9 => exact .opcode (by grind)

/-! ## Encoding a decoded request -/

theorem payloadBeats_of_payload {cw : CommandWord} (h : cw.op = 0x03#8 ∨ cw.op = 0x04#8) :
    payloadBeats cw = cw.arg.toNat :=
  if_pos h

theorem payloadBeats_of_no_payload {cw : CommandWord} (h : ¬ (cw.op = 0x03#8 ∨ cw.op = 0x04#8)) :
    payloadBeats cw = 0 :=
  if_neg h

theorem Request.framed_iff {r : Request} :
    r.framed = true ↔ r.beats.length = payloadBeats r.cw :=
  beq_iff_eq

/-- A framed request without payload is its command word. -/
theorem Request.eq_of_no_payload {r : Request} (hf : r.framed = true) {op : BitVec 8}
    (hop : r.cw.op = op) (hno : ¬ (op = 0x03#8 ∨ op = 0x04#8)) :
    ⟨CommandWord.make op r.cw.arg, []⟩ = r := by
  subst hop
  have hlen := Request.framed_iff.mp hf
  rw [payloadBeats_of_no_payload hno] at hlen
  rw [make_op_arg, ← List.eq_nil_of_length_eq_zero hlen]

/-- A framed request with a payload carries as many samples as its `arg` counts, and the beats come
back from the samples. -/
theorem Request.eq_of_payload {r : Request} (hf : r.framed = true) {op : BitVec 8}
    (hop : r.cw.op = op) (hpay : op = 0x03#8 ∨ op = 0x04#8) :
    ((r.beats.map Sample.ofBeat).length == r.cw.arg.toNat) = true ∧
      ⟨CommandWord.make op r.cw.arg, (r.beats.map Sample.ofBeat).map Sample.toBeat⟩ = r := by
  subst hop
  have hlen := Request.framed_iff.mp hf
  rw [payloadBeats_of_payload hpay] at hlen
  exact ⟨by simpa using hlen, by simp [Function.comp_def]⟩

/-- Settles O3: the case of the decoder gives the opcode and the reserved bits back, and framing gives
the payload back. -/
theorem encodeInvertsDecode : Obligations.EncodeInvertsDecode := by
  intro r i hf hd
  cases hd ▸ decodesTo_decode r with
  | construct hop => exact ⟨rfl, Request.eq_of_no_payload hf hop (by decide)⟩
  | destroy hop harg =>
    have heq := Request.eq_of_no_payload hf hop (by decide)
    rw [harg] at heq
    exact ⟨rfl, heq⟩
  | forward hop => exact Request.eq_of_payload hf hop (.inl rfl)
  | inverse hop => exact Request.eq_of_payload hf hop (.inr rfl)
  | resultRe hop => exact ⟨rfl, Request.eq_of_no_payload hf hop (by decide)⟩
  | resultIm hop => exact ⟨rfl, Request.eq_of_no_payload hf hop (by decide)⟩
  | ispow2 hop harg =>
    have heq := Request.eq_of_no_payload hf hop (by decide)
    rw [← append_halves r.cw.arg, harg] at heq
    exact ⟨rfl, heq⟩
  | isqrt hop => exact ⟨rfl, Request.eq_of_no_payload hf hop (by decide)⟩

/-! ## The rows of the opcode table -/

theorem CommandWord.eq_iff {v w : CommandWord} : v = w ↔ v.op = w.op ∧ v.arg = w.arg := by
  refine ⟨fun h => h ▸ ⟨rfl, rfl⟩, fun ⟨hop, harg⟩ => ?_⟩
  rw [← make_op_arg v, hop, harg, make_op_arg]

theorem CommandWord.op_and (v w : CommandWord) : CommandWord.op (v &&& w) = v.op &&& w.op :=
  BitVec.extractLsb'_and

theorem CommandWord.arg_and (v w : CommandWord) : CommandWord.arg (v &&& w) = v.arg &&& w.arg :=
  BitVec.extractLsb'_and

/-- The mask of ISPOW2's row tests the reserved half of `arg`. -/
theorem and_upperHalf_eq_zero_iff {arg : BitVec 32} :
    arg &&& 0xFFFF0000#32 = 0#32 ↔ arg.extractLsb' 16 16 = 0#16 := by
  have hmask : arg &&& 0xFFFF0000#32 = (arg.extractLsb' 16 16 ++ 0#16 : BitVec 32) := by
    calc arg &&& 0xFFFF0000#32
        = (arg.extractLsb' 16 16 ++ arg.extractLsb' 0 16) &&& (BitVec.allOnes 16 ++ 0#16) := by
          rw [append_halves]; rfl
      _ = _ := by rw [BitVec.and_append, BitVec.and_allOnes, BitVec.and_zero]
  rw [hmask]
  exact BitVec.append_left_inj (s₂ := 0#16) 0#16

/-- The form all eight rows have: the opcode is tested whole, and the reserved bits of `arg` against
zero (30_encoding R75, R79). -/
def opcodeRow (mnemonic : String) (op : BitVec 8) (reservedBits : BitVec 32) : OpcodeRow :=
  ⟨mnemonic, CommandWord.make op 0#32, CommandWord.make (BitVec.allOnes 8) reservedBits⟩

theorem opcodeTable_eq_opcodeRows : opcodeTable =
    [ opcodeRow "CONSTRUCT" 0x01#8 0#32,
      opcodeRow "DESTROY" 0x02#8 0xFFFFFFFF#32,
      opcodeRow "FORWARD" 0x03#8 0#32,
      opcodeRow "INVERSE" 0x04#8 0#32,
      opcodeRow "RESULT_RE" 0x05#8 0#32,
      opcodeRow "RESULT_IM" 0x06#8 0#32,
      opcodeRow "ISPOW2" 0x07#8 0xFFFF0000#32,
      opcodeRow "ISQRT" 0x08#8 0#32 ] := by decide

@[simp] theorem opcodeRow_mnemonic (mnemonic : String) (op : BitVec 8) (reservedBits : BitVec 32) :
    (opcodeRow mnemonic op reservedBits).mnemonic = mnemonic := rfl

@[simp] theorem opcodeRow_covers (mnemonic : String) (op : BitVec 8) (reservedBits : BitVec 32)
    (cw : CommandWord) : (opcodeRow mnemonic op reservedBits).covers cw =
      decide (cw.op = op ∧ cw.arg &&& reservedBits = 0#32) := by
  rw [Bool.eq_iff_iff, decide_eq_true_iff, OpcodeRow.covers, beq_iff_eq,
    CommandWord.eq_iff, CommandWord.op_and, CommandWord.arg_and]
  simp only [opcodeRow, op_make, arg_make, BitVec.and_allOnes]

/-- A word that decodes to a command is covered by that command's row only: the opcode excludes the
other seven. -/
theorem coveringRows_of_command {r : Request} {i : Instr} (h : decode r = .command i) :
    (opcodeTable.filter fun row => row.covers r.cw).map OpcodeRow.mnemonic = [i.mnemonic] := by
  rw [opcodeTable_eq_opcodeRows]
  cases h ▸ decodesTo_decode r with
  | construct hop | forward hop | inverse hop | resultRe hop | resultIm hop | isqrt hop =>
    simp [hop, Instr.mnemonic]
  | destroy hop harg => simp [hop, harg, Instr.mnemonic]
  | ispow2 hop harg => simp [hop, and_upperHalf_eq_zero_iff.mpr harg, Instr.mnemonic]

/-- A reserved word has no row: a reserved bit is set, or no row has its opcode. -/
theorem not_covers_of_reserved {r : Request} {why : ReservedKind} (h : decode r = .reserved why) :
    ∀ row ∈ opcodeTable, ¬ row.covers r.cw = true := by
  rw [opcodeTable_eq_opcodeRows]
  cases h ▸ decodesTo_decode r with
  | destroyBits hop harg =>
    have hand : r.cw.arg &&& 0xFFFFFFFF#32 = r.cw.arg := BitVec.and_allOnes
    simp [hop, hand, harg]
  | ispow2Bits hop harg => simp [hop, and_upperHalf_eq_zero_iff, harg]
  | opcode hop =>
    have hne : ∀ op : BitVec 8, 1 ≤ op.toNat → op.toNat ≤ 8 → r.cw.op ≠ op := by
      rintro _ hlow hhigh rfl
      omega
    simp [hne]

/-- Settles O4, from the decoder's cases and what each row tests. -/
theorem oneOpcodeRowPerWord : Obligations.OneOpcodeRowPerWord :=
  fun _ _ => ⟨fun _ => coveringRows_of_command,
    fun _ h => List.filter_eq_nil_iff.mpr (not_covers_of_reserved h)⟩

end Sys2Proof
end

section
/-! PROOF. The fields of the response word (30_encoding R74). -/

namespace Sys2Proof.Machine

@[simp] theorem status_word (r : Response) : r.word.extractLsb' 64 4 = statusCode r.status :=
  BitVec.extractLsb'_append_eq_left

@[simp] theorem data_word (r : Response) : r.word.extractLsb' 0 64 = r.data :=
  BitVec.extractLsb'_append_eq_right

theorem statusCode_le (code : Status) : (statusCode code).toNat ≤ 5 := by
  cases code <;> decide

theorem statusCode_injective : Function.Injective statusCode := by
  intro a b
  cases a <;> cases b <;> decide

theorem word_injective : Function.Injective Response.word := by
  intro q r h
  have hstatus : q.status = r.status :=
    statusCode_injective (by rw [← status_word, h, status_word])
  have hdata : q.data = r.data := by rw [← data_word, h, data_word]
  calc q = ⟨q.status, q.data⟩ := rfl
    _ = r := by rw [hstatus, hdata]

/-- Settles O6: the fields read back, and a word determines both. -/
theorem responseWordLayout : Obligations.ResponseWordLayout :=
  fun r => ⟨status_word r, data_word r, (status_word r).symm ▸ statusCode_le r.status,
    fun _ h => word_injective h⟩

end Sys2Proof.Machine
end

section
/-! PROOF. READBACK (30_encoding R83, 46_result_accessor R203): each pair of reads answers its two words
and leaves the state as it was but for the response port, so the next pair finds the same words. -/

namespace Sys2Proof.Machine

/-- The commands of a READBACK of the given indices. -/
def readCommands (indices : List Nat) : List Instr :=
  indices.flatMap fun i => [.resultRe (BitVec.ofNat 32 i), .resultIm (BitVec.ofNat 32 i)]

/-- The responses a constructed unit gives them. -/
def readResponses (m : Memory) (indices : List Nat) : List Response :=
  indices.flatMap fun i => [⟨.ok, m.readRe i⟩, ⟨.ok, m.readIm i⟩]

theorem length_readCommands (indices : List Nat) :
    (readCommands indices).length = 2 * indices.length := by
  simp [readCommands, List.length_flatMap, mul_comm]

/-- Every index fits `arg`, so each line is a command. -/
theorem mapM_instr_reads {indices : List Nat} (h : ∀ i ∈ indices, i < 2 ^ 32) :
    (indices.flatMap fun i => [AsmLine.resultRe i, AsmLine.resultIm i]).mapM AsmLine.instr =
      some (readCommands indices) := by
  induction indices with
  | nil => rfl
  | cons i rest ih =>
    obtain ⟨hi, hrest⟩ := List.forall_mem_cons.mp h
    have hre : (AsmLine.resultRe i).instr = some (.resultRe (BitVec.ofNat 32 i)) := if_pos hi
    have him : (AsmLine.resultIm i).instr = some (.resultIm (BitVec.ofNat 32 i)) := if_pos hi
    simp [hre, him, ih hrest, readCommands]

theorem runCommands_cons_of_answer {i : Instr} {s : State} {code : Status} {data : BitVec 64}
    (h : exec i s = .next (s.answer code data)) (rest : List Instr) :
    runCommands (i :: rest) s =
      (runCommands rest (s.answer code data)).map fun out => (out.1, ⟨code, data⟩ :: out.2) := by
  rw [runCommands, h]
  simp only [answer_response]
  cases runCommands rest (s.answer code data) <;> rfl

/-- An index below the length is read: the buffers have that word. -/
theorem State.Inv.reads {s : State} (h : s.Inv) (hs : s.constructed = true) {i : Nat}
    (hi : i < s.length.toNat) :
    exec (.resultRe (BitVec.ofNat 32 i)) s = .next (s.answer .ok (s.mem.readRe i)) ∧
      exec (.resultIm (BitVec.ofNat 32 i)) s = .next (s.answer .ok (s.mem.readIm i)) := by
  have hmax : i < Config.nMax := hi.trans_le (h.length_le hs)
  have hindex : (BitVec.ofNat 32 i).toNat = i := by
    rw [BitVec.toNat_ofNat]
    exact Nat.mod_eq_of_lt (hmax.trans (by decide))
  have hword (word : BufWord) :
      readResult word (BitVec.ofNat 32 i) s = .next (s.answer .ok word) :=
    readResult_of_lt hs word (hindex.symm ▸ hi) (hindex.symm ▸ hmax)
  constructor
  · simp only [exec, execResultRe, hindex, hword]
  · simp only [exec, execResultIm, hindex, hword]

theorem runCommands_readCommands {s : State} (h : s.Inv) (hs : s.constructed = true)
    {indices : List Nat} (hi : ∀ i ∈ indices, i < s.length.toNat) :
    ∃ port, runCommands (readCommands indices) s =
      some ({ s with response := port }, readResponses s.mem indices) := by
  induction indices generalizing s with
  | nil => exact ⟨s.response, rfl⟩
  | cons i rest ih =>
    obtain ⟨hlt, hrest⟩ := List.forall_mem_cons.mp hi
    obtain ⟨hre, -⟩ := h.reads hs hlt
    obtain ⟨-, him⟩ := (h.answer .ok (s.mem.readRe i)).reads hs hlt
    obtain ⟨port, hrun⟩ :=
      ih ((h.answer .ok (s.mem.readRe i)).answer .ok (s.mem.readIm i)) hs hrest
    refine ⟨port, ?_⟩
    show runCommands (_ :: _ :: readCommands rest) s = _
    rw [runCommands_cons_of_answer hre, runCommands_cons_of_answer him, answer_mem, hrun]
    rfl

/-- Settles O47, from the reads of any list of indices below the length. -/
theorem readbackReturnsWholeResult : Obligations.ReadbackReturnsWholeResult := by
  intro s h hs
  have hlt : ∀ i ∈ List.range s.length.toNat, i < s.length.toNat := fun _ => List.mem_range.mp
  have hfits : ∀ i ∈ List.range s.length.toNat, i < 2 ^ 32 := fun i hi => by
    have := hlt i hi
    omega
  obtain ⟨port, hrun⟩ := runCommands_readCommands h hs hlt
  refine ⟨_, _, mapM_instr_reads hfits, hrun, ?_, rfl⟩
  rw [length_readCommands, List.length_range]

end Sys2Proof.Machine
end

section
/-! PROOF. The size validator (40_size_validator R100 to R102): the bit test against the powers of two
and against the number of set bits, and the gates of ISPOW2 and CONSTRUCT. -/

namespace Sys2Proof.Machine

/-! ## The bit test -/

theorem isPowerOfTwo_iff_toNat (x : BitVec 16) :
    isPowerOfTwo x = true ↔ ∃ k ≤ 15, x.toNat = 2 ^ k := by
  rw [isPowerOfTwo_iff]
  refine exists_congr fun k => (and_iff_right_of_imp fun hk => ?_).symm
  have hlt : 2 ^ k < 2 ^ 16 := hk ▸ x.isLt
  exact Nat.le_of_lt_succ ((Nat.pow_lt_pow_iff_right one_lt_two).mp hlt)

/-- The 16-bit powers of two are the words with a single set bit. -/
theorem isPowerOfTwo_iff_twoPow (x : BitVec 16) :
    isPowerOfTwo x = true ↔ ∃ k < 16, x = BitVec.twoPow 16 k := by
  rw [isPowerOfTwo_iff_toNat]
  refine exists_congr fun k => ?_
  rw [← Nat.lt_succ_iff]
  refine and_congr_right fun hk => ?_
  rw [← BitVec.toNat_inj, BitVec.toNat_twoPow_of_lt hk]

theorem popcount16_eq_card (x : BitVec 16) :
    popcount16 x = ((Finset.range 16).filter fun b => x.getLsbD b = true).card := by
  change _ = ((List.range 16).filter fun b => decide (x.getLsbD b = true)).length
  simp only [popcount16, Bool.decide_eq_true]

/-- The word whose only set bit is `k`. -/
theorem setBits_eq_singleton_iff {x : BitVec 16} {k : Nat} :
    ((Finset.range 16).filter fun b => x.getLsbD b = true) = {k} ↔
      k < 16 ∧ x = BitVec.twoPow 16 k := by
  simp only [Finset.ext_iff, Finset.mem_filter, Finset.mem_range, Finset.mem_singleton]
  constructor
  · intro h
    obtain ⟨hk, -⟩ := (h k).mpr rfl
    refine ⟨hk, BitVec.eq_of_getLsbD_eq fun b hb => ?_⟩
    rw [Bool.eq_iff_iff]
    simpa [BitVec.getLsbD_twoPow, hk, hb] using h b
  · rintro ⟨hk, rfl⟩ b
    simp only [BitVec.getLsbD_twoPow, Bool.and_eq_true, decide_eq_true_eq]
    omega

theorem popcount16_eq_one_iff (x : BitVec 16) :
    popcount16 x = 1 ↔ ∃ k < 16, x = BitVec.twoPow 16 k := by
  rw [popcount16_eq_card, Finset.card_eq_one]
  exact exists_congr fun _ => setBits_eq_singleton_iff

/-- Settles O9: both sides say that the word is a single bit. -/
theorem powerOfTwoContract : Obligations.PowerOfTwoContract :=
  fun x => ⟨isPowerOfTwo_iff_toNat x,
    (isPowerOfTwo_iff_twoPow x).trans (popcount16_eq_one_iff x).symm⟩

/-! ## ISPOW2 -/

theorem decode_make_ispow2 (arg : BitVec 32) :
    decode ⟨CommandWord.make 0x07#8 arg, []⟩ =
      if arg.extractLsb' 16 16 = 0#16 then .command (.ispow2 (arg.extractLsb' 0 16))
      else .reserved .argBits := by
  simp [decode]

/-- ISPOW2's opcode decodes to a reserved word exactly for a reserved bit of `arg` (30_encoding R79). -/
theorem decode_make_ispow2_eq_reserved_iff (arg : BitVec 32) :
    decode ⟨CommandWord.make 0x07#8 arg, []⟩ = .reserved .argBits ↔ arg.extractLsb' 16 16 ≠ 0#16 := by
  rw [decode_make_ispow2]
  by_cases harg : arg.extractLsb' 16 16 = 0#16
  · simp [harg]
  · simp [harg]

theorem runCommand_of_reserved {r : Request} {why : ReservedKind} (h : decode r = .reserved why)
    (s : State) : runCommand r s = .next (s.answer .errOp 0#64) := by
  rw [runCommand, h, reject_eq]

theorem exec_ispow2 (x : BitVec 16) (s : State) :
    exec (.ispow2 x) s = .next (s.answer .ok (zext64Bool (isPowerOfTwo x))) := rfl

/-- Settles O10: the encoder's word reads back, the answer is `exec` of it, and only a reserved bit
keeps the word from decoding. -/
theorem ispow2AnswersValidator : Obligations.Ispow2AnswersValidator := by
  refine ⟨fun x s => ⟨decode_encode (.ispow2 x), exec_ispow2 x s⟩, fun arg s => ?_,
    by decide, by decide, by decide, by decide, by decide, by decide, by decide⟩
  have hreserved := decode_make_ispow2_eq_reserved_iff arg
  exact ⟨hreserved, fun harg => runCommand_of_reserved (hreserved.mpr harg) s⟩

/-! ## The gate of CONSTRUCT -/

theorem validLength_eq_true_iff_conjunction (L : BitVec 32) :
    validLength L = true ↔
      L.toNat ≤ 0xFFFF ∧ isPowerOfTwo (L.extractLsb' 0 16) = true ∧ 2 ≤ L.toNat := by
  simp only [validLength, Bool.and_eq_true, decide_eq_true_eq, and_assoc]

theorem exec_construct_of_not_validLength {L : BitVec 32} {s : State} (hs : s.constructed = false)
    (hL : validLength L = false) :
    exec (.construct L) s = .next (s.answer .errSize 0#64) := by
  rcases execConstruct_cases L s with ⟨hs', -⟩ | ⟨-, hL', -⟩ | ⟨-, -, he⟩
  · cases hs.symm.trans hs'
  · cases hL.symm.trans hL'
  · exact he

/-- Settles O11: the conjunction is the definition, the lengths are `validLength_iff`, and an invalid
one leaves CONSTRUCT only the rejection. -/
theorem validLengthsAreFifteen : Obligations.ValidLengthsAreFifteen :=
  ⟨fun L => ⟨validLength_eq_true_iff_conjunction L, validLength_iff L⟩, by decide,
    fun _ _ => exec_construct_of_not_validLength, by decide⟩

end Sys2Proof.Machine
end

section
/-! PROOF. The integer square root (41_isqrt R110 to R114): the loop invariant of the recurrence, the
rounded root in integers, and ISQRT. -/

namespace Sys2Proof.Machine

/-! ## One step on integers -/

/-- Bits brought in below a shifted word are added to it, when the shift loses nothing. -/
theorem toNat_shiftLeft_or {w k : Nat} {a b : BitVec w} (ha : a.toNat * 2 ^ k < 2 ^ w)
    (hb : b.toNat < 2 ^ k) : (a <<< k ||| b).toNat = a.toNat * 2 ^ k + b.toNat := by
  rw [BitVec.toNat_or, BitVec.toNat_shiftLeft, Nat.shiftLeft_eq, Nat.mod_eq_of_lt ha,
    ← Nat.shiftLeft_eq, Nat.shiftLeft_add_eq_or_of_lt hb]

theorem toNat_sqrtShiftIn {r : SqrtRegs} (hrem : r.rem.toNat < 2 ^ 16) (x : BitVec 32) (i : Nat) :
    (sqrtShiftIn x i r).toNat = 4 * r.rem.toNat + x.toNat / 2 ^ (2 * i) % 4 := by
  have hpair : ((x.extractLsb' (2 * i) 2).setWidth 18).toNat = x.toNat / 2 ^ (2 * i) % 4 := by
    rw [BitVec.toNat_setWidth, BitVec.extractLsb'_toNat, Nat.shiftRight_eq_div_pow]
    omega
  rw [sqrtShiftIn, toNat_shiftLeft_or (by omega) (by omega), hpair]
  omega

theorem toNat_sqrtTrial (r : SqrtRegs) : (sqrtTrial r).toNat = 4 * r.root.toNat + 1 := by
  have hroot : (r.root.setWidth 18).toNat = r.root.toNat :=
    BitVec.toNat_setWidth_of_le (by decide)
  rw [sqrtTrial, toNat_shiftLeft_or (by omega) (by decide), hroot, BitVec.toNat_ofNat]
  omega

theorem sqrtStep_of_le {x : BitVec 32} {r : SqrtRegs} {i : Nat}
    (h : sqrtTrial r ≤ sqrtShiftIn x i r) :
    sqrtStep x r i = ⟨sqrtShiftIn x i r - sqrtTrial r, r.root <<< 1 ||| 1#16⟩ :=
  if_pos h

theorem sqrtStep_of_not_le {x : BitVec 32} {r : SqrtRegs} {i : Nat}
    (h : ¬ sqrtTrial r ≤ sqrtShiftIn x i r) :
    sqrtStep x r i = ⟨sqrtShiftIn x i r, r.root <<< 1⟩ :=
  if_neg h

/-- What the working registers hold of the bits `X` of `x` taken so far: the root, with a remainder
too small for a larger one (41_isqrt R111). -/
structure SqrtRegs.HoldsRoot (r : SqrtRegs) (X : Nat) : Prop where
  square_add_rem : r.root.toNat * r.root.toNat + r.rem.toNat = X
  rem_le : r.rem.toNat ≤ 2 * r.root.toNat

namespace SqrtRegs.HoldsRoot

variable {r : SqrtRegs} {X : Nat}

theorem root_eq (h : r.HoldsRoot X) : r.root.toNat = Nat.sqrt X := by
  have hrem := h.rem_le
  rw [← h.square_add_rem, Nat.sqrt_add_eq _ (by omega)]

theorem rem_eq (h : r.HoldsRoot X) : r.rem.toNat = X - r.root.toNat * r.root.toNat :=
  (Nat.sub_eq_of_eq_add' h.square_add_rem.symm).symm

theorem root_lt (h : r.HoldsRoot X) (hX : X < 2 ^ 30) : r.root.toNat < 2 ^ 15 := by
  rw [h.root_eq, Nat.sqrt_lt]
  exact hX

theorem shiftIn (h : r.HoldsRoot X) (hX : X < 2 ^ 30) (x : BitVec 32) (i : Nat) :
    (sqrtShiftIn x i r).toNat = 4 * r.rem.toNat + x.toNat / 2 ^ (2 * i) % 4 := by
  have hroot := h.root_lt hX
  have hrem := h.rem_le
  exact toNat_sqrtShiftIn (by omega) x i

/-- One step takes two more bits of `x`: the new root is `2 root + 1` where its square fits, and
`2 root` where it does not. -/
theorem step (h : r.HoldsRoot X) (hX : X < 2 ^ 30) (x : BitVec 32) (i : Nat) :
    (sqrtStep x r i).HoldsRoot (4 * X + x.toNat / 2 ^ (2 * i) % 4) := by
  have hroot := h.root_lt hX
  have hrem := h.rem_le
  have hsquare := h.square_add_rem
  have hshift := h.shiftIn hX x i
  have htrial := toNat_sqrtTrial r
  by_cases hfits : sqrtTrial r ≤ sqrtShiftIn x i r
  · have hroot' : (r.root <<< 1 ||| 1#16).toNat = r.root.toNat * 2 + 1 :=
      toNat_shiftLeft_or (by omega) (by decide)
    have hrem' := BitVec.toNat_sub_of_le hfits
    have hle := BitVec.le_def.mp hfits
    rw [sqrtStep_of_le hfits]
    constructor
    · simp only [hroot', hrem']
      linarith [Nat.sub_add_cancel hle]
    · simp only [hroot', hrem']
      omega
  · have hroot' : (r.root <<< 1).toNat = r.root.toNat * 2 := by
      rw [BitVec.toNat_shiftLeft]
      omega
    have hlt := Nat.lt_of_not_le (mt BitVec.le_def.mpr hfits)
    rw [sqrtStep_of_not_le hfits]
    constructor
    · simp only [hroot', hshift]
      linarith
    · simp only [hroot']
      omega

end SqrtRegs.HoldsRoot

/-! ## The loop -/

/-- The leading `2n` bits of `x` as a number: what the first `n` steps have taken. -/
def leadingPairs (x : BitVec 32) (n : Nat) : Nat := x.toNat / 2 ^ (32 - 2 * n)

theorem leadingPairs_lt (x : BitVec 32) {n : Nat} (hn : n < 16) : leadingPairs x n < 2 ^ 30 := by
  have hpow : 2 ^ 2 ≤ 2 ^ (32 - 2 * n) := Nat.pow_le_pow_right two_pos (by omega)
  calc leadingPairs x n ≤ x.toNat / 2 ^ 2 := Nat.div_le_div_left hpow (by decide)
    _ < 2 ^ 30 := by omega

theorem leadingPairs_succ (x : BitVec 32) {n : Nat} (hn : n < 16) :
    leadingPairs x (n + 1) = 4 * leadingPairs x n + x.toNat / 2 ^ (2 * (15 - n)) % 4 := by
  have hlow : 32 - 2 * (n + 1) = 2 * (15 - n) := by omega
  have hhigh : 32 - 2 * n = 2 * (15 - n) + 2 := by omega
  rw [leadingPairs, leadingPairs, hlow, hhigh, pow_add, ← Nat.div_div_eq_div_mul]
  exact (Nat.div_add_mod _ 4).symm

theorem sqrtAfter_succ (x : BitVec 32) {n : Nat} (hn : n < 16) :
    sqrtAfter x (n + 1) = sqrtStep x (sqrtAfter x n) (15 - n) := by
  have hlen : n < sqrtPairs.length := hn
  have hpair : sqrtPairs[n] = 15 - n := by
    simp only [sqrtPairs, List.getElem_reverse, List.getElem_range, List.length_range]
  rw [sqrtAfter, List.take_succ_eq_append_getElem hlen, List.foldl_concat, hpair, sqrtAfter]

/-- The loop invariant of 41_isqrt R111. -/
theorem sqrtAfter_holdsRoot (x : BitVec 32) {n : Nat} (hn : n ≤ 16) :
    (sqrtAfter x n).HoldsRoot (leadingPairs x n) := by
  induction n with
  | zero => exact ⟨(Nat.div_eq_of_lt x.isLt).symm, Nat.zero_le _⟩
  | succ n ih =>
    rw [sqrtAfter_succ x hn, leadingPairs_succ x hn]
    exact (ih (Nat.le_of_lt hn)).step (leadingPairs_lt x hn) x (15 - n)

theorem sqrtRun_holdsRoot (x : BitVec 32) : (sqrtRun x).HoldsRoot x.toNat := by
  have h := sqrtAfter_holdsRoot x le_rfl
  rwa [leadingPairs, Nat.pow_zero, Nat.div_one] at h

theorem toNat_isqrt (x : BitVec 32) : (isqrt x).toNat = Nat.sqrt x.toNat :=
  (sqrtRun_holdsRoot x).root_eq

/-- Settles O12: the invariant is `HoldsRoot`, which each step keeps. -/
theorem sqrtRecurrenceInvariant : Obligations.SqrtRecurrenceInvariant := by
  refine fun x => ⟨fun n hn => ?_, toNat_isqrt x, (sqrtRun_holdsRoot x).rem_eq⟩
  have h := sqrtAfter_holdsRoot x hn
  refine ⟨h.root_eq, h.rem_eq, h.rem_le, fun hlt => ?_⟩
  have hX := leadingPairs_lt x hlt
  have hshift := h.shiftIn hX x (15 - n)
  have hroot := h.root_lt hX
  have hrem := h.rem_le
  exact ⟨hshift, by omega⟩

/-! ## The rounded root -/

/-- `√x + 1/2 = (√(4x) + 1) / 2`, where the floor may be taken inside (41_isqrt R110). -/
theorem floor_sqrt_add_half (x : Nat) : ⌊√(x : ℝ) + 1 / 2⌋ = (nearestRoot x : Int) := by
  have hfour : √((4 * x : Nat) : ℝ) = 2 * √(x : ℝ) := by
    rw [Nat.cast_mul, Real.sqrt_mul (Nat.cast_nonneg _),
      show ((4 : Nat) : ℝ) = 2 ^ 2 by norm_num, Real.sqrt_sq two_pos.le]
  calc ⌊√(x : ℝ) + 1 / 2⌋
      = ⌊(√((4 * x : Nat) : ℝ) + 1) / (2 : Nat)⌋ := by
        rw [hfour]
        congr 1
        push_cast
        ring
    _ = (Nat.sqrt (4 * x) + 1) / (2 : Nat) := by
        rw [Int.floor_div_natCast, Int.floor_add_one, Real.floor_real_sqrt_eq_nat_sqrt]
    _ = nearestRoot x := by
        rw [nearestRoot, Int.natCast_ediv, Nat.cast_add_one (Nat.sqrt _)]

/-- In `2 √x` the half of `r + 1/2` is a whole step: the first `x` past it is `r² + r + 1`. -/
theorem two_mul_succ_le_sqrt_four_mul {r x : Nat} :
    2 * r + 1 ≤ Nat.sqrt (4 * x) ↔ r * r + r + 1 ≤ x := by
  have hsquare : (2 * r + 1) * (2 * r + 1) = 4 * (r * r + r) + 1 := by ring
  rw [Nat.le_sqrt, hsquare]
  omega

theorem sqrt_four_mul_bounds (x : Nat) :
    2 * Nat.sqrt x ≤ Nat.sqrt (4 * x) ∧ Nat.sqrt (4 * x) < 2 * (Nat.sqrt x + 1) := by
  rw [Nat.le_sqrt, Nat.sqrt_lt]
  constructor
  · linarith [Nat.sqrt_le x]
  · linarith [Nat.lt_succ_sqrt x]

theorem nearestRoot_bounds (x : Nat) :
    Nat.sqrt x ≤ nearestRoot x ∧ nearestRoot x ≤ Nat.sqrt x + 1 := by
  have hroot := sqrt_four_mul_bounds x
  rw [nearestRoot]
  omega

/-- The rounded root is above the floor root from `r² + r + 1` on (41_isqrt R113). -/
theorem nearestRoot_eq_succ_iff (x : Nat) :
    nearestRoot x = Nat.sqrt x + 1 ↔ Nat.sqrt x * Nat.sqrt x + Nat.sqrt x + 1 ≤ x := by
  have hroot := sqrt_four_mul_bounds x
  rw [← two_mul_succ_le_sqrt_four_mul, nearestRoot]
  omega

/-- The final remainder tells it too. -/
theorem root_lt_rem_sqrtRun_iff (x : BitVec 32) :
    (sqrtRun x).root.toNat < (sqrtRun x).rem.toNat ↔
      Nat.sqrt x.toNat * Nat.sqrt x.toNat + Nat.sqrt x.toNat + 1 ≤ x.toNat := by
  have h := sqrtRun_holdsRoot x
  rw [h.rem_eq, h.root_eq]
  omega

/-- Settles O13: in integers both the rounded root and the final remainder are compared with
`r² + r + 1`. -/
theorem sqrtMeetsRoundedContract : Obligations.SqrtMeetsRoundedContract := by
  intro x r rounded
  have hr : r = Nat.sqrt x.toNat := congrArg Nat.cast (toNat_isqrt x)
  have hrounded : rounded = nearestRoot x.toNat := floor_sqrt_add_half x.toNat
  obtain ⟨hle, hle_succ⟩ := nearestRoot_bounds x.toNat
  have hsucc : rounded = r + 1 ↔
      Nat.sqrt x.toNat * Nat.sqrt x.toNat + Nat.sqrt x.toNat + 1 ≤ x.toNat := by
    rw [hr, hrounded, ← nearestRoot_eq_succ_iff]
    norm_cast
  refine ⟨hrounded, abs_le.mpr ⟨by omega, by omega⟩, by omega, by omega, hsucc.trans ?_,
    hsucc.trans (root_lt_rem_sqrtRun_iff x).symm⟩
  rw [hr]
  norm_cast

/-- Settles O14: from `65535² + 65535 + 1` on the rounded root is one above 65535. -/
theorem sqrtTopOfRange : Obligations.SqrtTopOfRange := by
  intro x hx
  have hroot : Nat.sqrt x.toNat = 65535 := (Nat.eq_sqrt.mpr ⟨by omega, by omega⟩).symm
  refine ⟨?_, (toNat_isqrt x).trans hroot, fun v hv => ?_⟩
  · have hhalf : Nat.sqrt x.toNat * Nat.sqrt x.toNat + Nat.sqrt x.toNat + 1 ≤ x.toNat :=
      hroot.symm ▸ hx
    rw [floor_sqrt_add_half, (nearestRoot_eq_succ_iff _).mpr hhalf, hroot]
    rfl
  · have := abs_le.mp hv
    omega

/-! ## ISQRT -/

theorem zext64Root_isqrt (x : BitVec 32) :
    zext64Root (isqrt x) = BitVec.ofNat 64 (Nat.sqrt x.toNat) := by
  rw [zext64Root, ← toNat_isqrt, BitVec.ofNat_toNat]

theorem exec_isqrt (x : BitVec 32) (s : State) :
    exec (.isqrt x) s = .next (s.answer .ok (BitVec.ofNat 64 (Nat.sqrt x.toNat))) :=
  zext64Root_isqrt x ▸ rfl

/-- A number that fits `arg` is answered with its floor root. -/
theorem toNat_isqrt_ofNat {n : Nat} (hn : n < 2 ^ 32) :
    (isqrt (BitVec.ofNat 32 n)).toNat = Nat.sqrt n := by
  rw [toNat_isqrt, BitVec.toNat_ofNat, Nat.mod_eq_of_lt hn]

theorem sqrt_square_sub_one {r : Nat} (hr : 0 < r) : Nat.sqrt (r * r - 1) = r - 1 := by
  obtain ⟨k, rfl⟩ := Nat.exists_eq_add_one.mpr hr
  have hbelow : (k + 1) * (k + 1) - 1 = k * k + (k + k) :=
    Nat.sub_eq_of_eq_add (by ring)
  rw [hbelow, Nat.sqrt_add_eq k le_rfl, Nat.add_sub_cancel]

/-- Settles O15: the encoder's word reads back, the answer is the floor root in every state, and the
corner cases are floor roots. -/
theorem isqrtAnswersFloorRoot : Obligations.IsqrtAnswersFloorRoot := by
  refine ⟨fun x s => ⟨decode_encode (.isqrt x), exec_isqrt x s⟩, fun r hr => ?_, ?_⟩
  · have hsquare : r * r < 2 ^ 32 := Nat.mul_self_lt_mul_self hr
    rw [toNat_isqrt_ofNat hsquare, toNat_isqrt_ofNat (Nat.lt_of_le_of_lt (Nat.sub_le ..) hsquare)]
    exact ⟨Nat.sqrt_eq r, sqrt_square_sub_one⟩
  · have hdecode : decode ⟨0x08000F4240#40, []⟩ = .command (.isqrt 1000000#32) := by decide
    have hword : Response.word ⟨.ok, 1000#64⟩ = 0x000000000000003E8#68 := by decide
    norm_num [toNat_isqrt, hdecode, hword, nearestRoot]

end Sys2Proof.Machine
end

section
/-! PROOF. The switching table (42_permutation_table): bit reversal bit by bit, as an involution and a
permutation of the indices, and the table the builder leaves as one list. -/

namespace Sys2Proof.Machine

/-! ## Bit reversal on indices (R120, R124) -/

/-- Bit `b` of the reversal is bit `n - 1 - b` of the index. -/
theorem testBit_bitrev {b n : Nat} (i : Nat) (hb : b < n) :
    (bitrev i n).testBit b = i.testBit (n - 1 - b) := by
  induction n generalizing i with
  | zero => omega
  | succ n ih =>
    rw [bitrev_succ, Nat.mul_comm, Nat.testBit_two_pow_mul_add _ (bitrev_lt_two_pow _ n)]
    rcases Nat.lt_succ_iff_lt_or_eq.mp hb with hlow | rfl
    · have hshift : n + 1 - 1 - b = n - 1 - b + 1 := by omega
      rw [if_pos hlow, ih _ hlow, hshift, Nat.testBit_succ]
    · simp [Nat.testBit_zero]

/-- The fixed points are the palindromes. -/
theorem bitrev_eq_self_iff {i n : Nat} (hi : i < 2 ^ n) :
    bitrev i n = i ↔ ∀ b < n, i.testBit b = i.testBit (n - 1 - b) := by
  constructor
  · intro hfix b hb
    rw [← testBit_bitrev i hb, hfix]
  · intro hpal
    refine Nat.eq_of_testBit_eq fun b => ?_
    rcases Nat.lt_or_ge b n with hb | hb
    · rw [testBit_bitrev i hb, hpal b hb]
    · have hpow : 2 ^ n ≤ 2 ^ b := Nat.pow_le_pow_right two_pos hb
      rw [Nat.testBit_lt_two_pow ((bitrev_lt_two_pow i n).trans_le hpow),
        Nat.testBit_lt_two_pow (hi.trans_le hpow)]

theorem bitrev_zero_left (n : Nat) : bitrev 0 n = 0 :=
  (bitrev_eq_self_iff (Nat.two_pow_pos n)).mpr fun b _ => by simp only [Nat.zero_testBit]

theorem bitrev_two_pow_sub_one (n : Nat) : bitrev (2 ^ n - 1) n = 2 ^ n - 1 := by
  refine (bitrev_eq_self_iff (Nat.sub_one_lt (Nat.two_pow_pos n).ne')).mpr fun b hb => ?_
  have hmirror : n - 1 - b < n := by omega
  simp only [Nat.testBit_two_pow_sub_one, hb, hmirror]

/-- Writing at the reversed index and reading at it load the same buffer. -/
theorem scatter_iff_gather {α : Type} (n : Nat) (input buffer : Nat → α) :
    (∀ j < 2 ^ n, buffer (bitrev j n) = input j) ↔
      ∀ i < 2 ^ n, buffer i = input (bitrev i n) := by
  constructor
  · intro hscatter i hi
    rw [← hscatter _ (bitrev_lt_two_pow i n), bitrev_bitrev hi]
  · intro hgather j hj
    rw [hgather _ (bitrev_lt_two_pow j n), bitrev_bitrev hj]

theorem map_bitrev_perm_range (n : Nat) :
    ((List.range (2 ^ n)).map (bitrev · n)).Perm (List.range (2 ^ n)) := by
  have hnodup : ((List.range (2 ^ n)).map (bitrev · n)).Nodup :=
    List.nodup_range.map_on fun i hi j hj h =>
      bitrev_inj (List.mem_range.mp hi) (List.mem_range.mp hj) h
  refine (List.perm_ext_iff_of_nodup hnodup List.nodup_range).mpr fun p => ?_
  simp only [List.mem_map, List.mem_range]
  constructor
  · rintro ⟨i, -, rfl⟩
    exact bitrev_lt_two_pow i n
  · intro hp
    exact ⟨bitrev p n, bitrev_lt_two_pow p n, bitrev_bitrev hp⟩

/-- Settles O19: the palindromes are read off bit by bit, and the rest is the involution. -/
theorem bitReversalIsInvolution : Obligations.BitReversalIsInvolution := by
  refine ⟨fun n i hi => ⟨bitrev_lt_two_pow i n, bitrev_bitrev hi, bitrev_eq_self_iff hi,
    bitrev_zero_left n, bitrev_two_pow_sub_one n⟩, fun s h hs i hi => ?_, scatter_iff_gather⟩
  rw [h.table hs _ (h.readTab_lt hs hi), h.table hs i hi, bitrev_bitrev (h.length_eq hs ▸ hi)]

/-! ## The built table (R120 to R123, R126) -/

/-- Settles O16: the doubling puts the lowest bit of the longer index on top of the reversal of its
upper bits. -/
theorem doublingKeepsBitReversal : Obligations.DoublingKeepsBitReversal :=
  ⟨rfl, fun _ _ hn h hold => holdsBitrev_tableDouble h hn hold⟩

/-- The first `N` words of the table as numbers. -/
def Memory.tableList (m : Memory) (N : Nat) : List Nat :=
  (List.range N).map fun i => (m.readTab i).toNat

theorem Memory.HoldsBitrev.tableList_eq {m : Memory} {n : Nat} (h : m.HoldsBitrev n) :
    m.tableList (2 ^ n) = (List.range (2 ^ n)).map (bitrev · n) :=
  List.map_congr_left fun i hi => h i (List.mem_range.mp hi)

/-- A command that changes the table is a CONSTRUCT or a DESTROY. -/
theorem exec_keeps_tab {i : Instr} {s t : State} (hi : ¬ ∃ L, i = .construct L)
    (hd : i ≠ .destroy) (he : exec i s = .next t) : t.mem.tab = s.mem.tab := by
  by_contra hne
  rcases onlyLifecycleCommandsChangeInstance i s t he (.inr (.inr (.inr (.inl hne)))) with
    ⟨L, hL, -⟩ | ⟨hdestroy, -⟩
  · exact hi ⟨L, hL⟩
  · exact hd hdestroy

/-- Settles O17: the built table is the bit reversal, which permutes the indices; the builder writes
no other word. -/
theorem builderMakesBitReversal : Obligations.BuilderMakesBitReversal := by
  refine ⟨fun _ _ _ => exec_keeps_tab, fun n m _ hn h => ?_⟩
  have hbuilt := holdsBitrev_buildTable h hn
  obtain ⟨hre, him⟩ := buildTable_buffers m (2 ^ n)
  refine ⟨hbuilt, ?_, fun i hi => readTab_buildTable_above m (Nat.two_pow_pos n).ne' hi,
    fun i => ⟨congrArg (·.getD i 0#64) hre, congrArg (·.getD i 0#64) him⟩⟩
  exact (List.Perm.of_eq hbuilt.tableList_eq).trans (map_bitrev_perm_range n)

theorem range_two_mul_eq_flatMap (M : Nat) :
    List.range (2 * M) = (List.range M).flatMap fun k => [2 * k, 2 * k + 1] := by
  induction M with
  | zero => rfl
  | succ M ih => simp [Nat.mul_succ, List.range_succ, ih]

/-- The fresh lists are the bit reversal: words `2k` and `2k+1` of a doubling come from word `k`. -/
theorem freshTable_eq_map_bitrev (n : Nat) :
    freshTable n = (List.range (2 ^ n)).map (bitrev · n) := by
  induction n with
  | zero => rfl
  | succ n ih =>
    have heven : ∀ k, bitrev (2 * k) (n + 1) = bitrev k n := fun k => by simp [bitrev_succ]
    have hodd : ∀ k, bitrev (2 * k + 1) (n + 1) = bitrev k n + 2 ^ n := fun k => by
      have hdiv : (2 * k + 1) / 2 = k := by omega
      have hmod : (2 * k + 1) % 2 = 1 := by omega
      rw [bitrev_succ, hdiv, hmod, Nat.one_mul, Nat.add_comm]
    rw [freshTable, ih, List.flatMap_map, Nat.pow_succ', range_two_mul_eq_flatMap,
      List.map_flatMap]
    simp only [List.map_cons, List.map_nil, heven, hodd]

/-- Building in place and building fresh lists give the same table (R122). -/
theorem tableList_buildTable {m : Memory} (h : m.wf) {n : Nat} (hn : n ≤ 15) :
    (buildTable (2 ^ n) m).tableList (2 ^ n) = freshTable n :=
  (holdsBitrev_buildTable h hn).tableList_eq.trans (freshTable_eq_map_bitrev n).symm

/-- One inner step of the builder, whatever the order of the steps. -/
theorem readTab_tableEntry {m : Memory} (h : m.wf) {k : Nat} (hk : 2 * k + 1 < Config.nMax)
    (M i : Nat) :
    (tableEntry M m k).readTab i =
      if i = 2 * k then m.readTab k
      else if i = 2 * k + 1 then m.readTab k + BitVec.ofNat 16 M else m.readTab i := by
  have hk' : 2 * k < Config.nMax := Nat.lt_of_succ_lt hk
  simp only [tableEntry, Memory.readTab_writeTab, Memory.length_writeTab, h.1, hk, hk', and_true,
    eq_comm]

/-- Settles O18: in place the table is the fresh one; with `k` ascending, step 0 overwrites word 1
before step 1 reads it. -/
theorem inPlaceBuildMatchesFreshLists : Obligations.InPlaceBuildMatchesFreshLists := by
  refine ⟨fun n m hn h => tableList_buildTable h hn, fun m h h0 _ => ?_⟩
  have hfirst := readTab_tableEntry h (k := 0) (by decide) 2
  have hsecond := readTab_tableEntry (tableEntry_wf h 2 0) (k := 1) (by decide) 2
  simp [List.range_succ, hsecond, hfirst, h0]

/-- Settles O21: each printed table is the fresh list of its number of doublings. -/
theorem sourceTablesAreBuilt : Obligations.SourceTablesAreBuilt := by
  refine ⟨fun m h => ?_, by decide⟩
  have hbuilt := fun n hn => tableList_buildTable h (n := n) hn
  exact ⟨hbuilt 1 (by decide), hbuilt 2 (by decide), hbuilt 3 (by decide), hbuilt 4 (by decide),
    hbuilt 5 (by decide)⟩

/-! ## The permuting load (R125) -/

/-- The table of a constructed unit is the reversal of `log2n` bits (10_state R34 item 2). -/
theorem State.Inv.holdsBitrev {s : State} (h : s.Inv) (hs : s.constructed = true) :
    s.mem.HoldsBitrev s.log2n.toNat :=
  fun i hi => h.table hs i (h.length_eq hs ▸ hi)

/-- Settles O20: the sample with target `i` is sample `tab[i]`, no target lies at or above the length,
and the load writes no table word. -/
theorem permutingLoadGathersInput : Obligations.PermutingLoadGathersInput := by
  intro s payload h hs hlen
  have htab := h.holdsBitrev hs
  rw [h.length_eq hs] at hlen ⊢
  refine ⟨fun i hi => ?_, fun i hi => ?_, fun i =>
    congrArg (·.getD i 0#16) (permuteLoad_tab payload s.mem)⟩
  · rw [htab i hi]
    exact readSample_permuteLoad h.mem (Nat.le_of_lt_succ s.log2n.isLt) htab hlen hi
  · exact Memory.readSample_eq_iff.mp (readSample_permuteLoad_above htab hlen hi)

end Sys2Proof.Machine
end

section
/-! PROOF. The words of the cosine ROM in index order (43_twiddle_rom R144, R210 to R212). What holds
of the literals word by word is checked along the list of all words and read back by index; the
order of the words follows. -/

namespace Sys2Proof.Machine

/-! ## The words as a list -/

/-- An entry of a list of rows, where every row before its own has `n` entries. -/
theorem getElem?_flatten_of_row {α : Type} {n k r : Nat} {rows : List (List α)} {row : List α}
    {a : α} (hn : ∀ l ∈ rows.take k, l.length = n) (hrow : rows[k]? = some row)
    (ha : row[r]? = some a) : rows.flatten[n * k + r]? = some a := by
  induction k generalizing rows with
  | zero =>
    obtain ⟨rest, rfl⟩ := List.head?_eq_some_iff.mp (List.head?_eq_getElem? ▸ hrow)
    obtain ⟨hr, -⟩ := List.getElem?_eq_some_iff.mp ha
    simpa [List.getElem?_append_left hr] using ha
  | succ k ih =>
    cases rows with
    | nil => simp at hrow
    | cons l rest =>
      have hl : l.length = n := hn l (by simp)
      have hrest := ih (rows := rest) (fun l' h => hn l' (by simp [h])) (by simpa using hrow)
      have hindex : n * (k + 1) + r = l.length + (n * k + r) := by rw [hl]; ring
      rw [List.flatten_cons, hindex, List.getElem?_append_right (Nat.le_add_right _ _),
        Nat.add_sub_cancel_left, hrest]

theorem getElem?_eq_some_getD {α : Type} {l : List α} {i : Nat} (d : α) (hi : i < l.length) :
    l[i]? = some (l.getD i d) := by
  rw [List.getD_eq_getElem _ _ hi, List.getElem?_eq_getElem hi]

/-- Every piece but the last has 32 rows of eight words. -/
theorem qromPiece_shape : ∀ k < 32,
    (qromPiece k).length = 32 ∧ ∀ row ∈ qromPiece k, row.length = 8 := by decide +kernel

theorem length_flatten_qromPiece {k : Nat} (hk : k < 32) : (qromPiece k).flatten.length = 256 := by
  obtain ⟨hrows, hwords⟩ := qromPiece_shape k hk
  rw [List.length_flatten, List.map_congr_left hwords]
  simp [hrows]

theorem getElem?_flatten_qromPiece {k i : Nat} (hk : k < 32) (hi : i < 256) :
    (qromPiece k).flatten[i]? = some (((qromPiece k).getD (i / 8) []).getD (i % 8) 0) := by
  obtain ⟨hrows, hwords⟩ := qromPiece_shape k hk
  have hrow := getElem?_eq_some_getD (l := qromPiece k) (i := i / 8) [] (by omega)
  have hlen := hwords _ (List.mem_of_getElem? hrow)
  have hword := getElem?_eq_some_getD 0 ((Nat.mod_lt i (by decide)).trans_eq hlen.symm)
  simpa only [Nat.div_add_mod] using
    getElem?_flatten_of_row (fun l hl => hwords l (List.mem_of_mem_take hl)) hrow hword

/-- The words of the ROM in index order. -/
def romWords : List Nat := ((List.range 33).map fun k => (qromPiece k).flatten).flatten

theorem length_romWords : romWords.length = 8193 := by decide +kernel

theorem getElem?_romWords {i : Nat} (hi : i ≤ 8192) : romWords[i]? = some (qrom i) := by
  rcases hi.lt_or_eq with hlt | rfl
  · have hk : i / 256 < 32 := Nat.div_lt_of_lt_mul hlt
    have hbefore : ∀ l ∈ ((List.range 33).map fun k => (qromPiece k).flatten).take (i / 256),
        l.length = 256 := by
      intro l hl
      rw [← List.map_take, List.take_range, List.mem_map] at hl
      obtain ⟨k, hmem, rfl⟩ := hl
      have hle := List.mem_range.mp hmem
      exact length_flatten_qromPiece (by omega)
    have hpiece : ((List.range 33).map fun k => (qromPiece k).flatten)[i / 256]? =
        some (qromPiece (i / 256)).flatten := by
      simp [hk.trans (Nat.lt_succ_self 32)]
    have hword := getElem?_flatten_qromPiece hk (Nat.mod_lt i (by decide))
    rw [Nat.mod_mod_of_dvd i (by decide)] at hword
    have hentry := getElem?_flatten_of_row hbefore hpiece hword
    rwa [Nat.div_add_mod] at hentry
  · decide +kernel

theorem getElem?_reverse_romWords {i : Nat} (hi : i ≤ 8192) :
    romWords.reverse[i]? = some (qrom (8192 - i)) := by
  rw [List.getElem?_reverse (by rw [length_romWords]; omega), length_romWords]
  exact getElem?_romWords (Nat.sub_le _ _)

/-- The entries of even index. -/
def evenEntries : List Nat → List Nat
  | [] => []
  | [a] => [a]
  | a :: _ :: l => a :: evenEntries l

theorem getElem?_evenEntries (l : List Nat) (i : Nat) : (evenEntries l)[i]? = l[2 * i]? := by
  fun_induction evenEntries l generalizing i with
  | case1 => rfl
  | case2 a => cases i <;> simp [Nat.mul_succ]
  | case3 a b l ih => cases i <;> simp [ih, Nat.mul_succ]

/-! ## Checks of every word -/

/-- What a check of two lists says of the entries at one index. -/
theorem of_all_zipWith {p : Nat → Nat → Bool} {l m : List Nat} {i a b : Nat}
    (h : (l.zipWith p m).all id = true) (ha : l[i]? = some a) (hb : m[i]? = some b) :
    p a b = true := by
  have hab : (l.zipWith p m)[i]? = some (p a b) := by rw [List.getElem?_zipWith, ha, hb]
  exact List.all_eq_true.mp h _ (List.mem_of_getElem? hab)

theorem check_decreasing :
    (romWords.zipWith (fun a b => decide (b < a)) romWords.tail).all id = true := by
  decide +kernel

theorem check_add_mirror :
    (romWords.zipWith (fun a b => decide (a + b ≤ 1518500250)) romWords.reverse).all id = true := by
  decide +kernel

theorem check_sq_add_mirror_sq :
    (romWords.zipWith (fun a b => decide (((a : Int) * a + b * b - 2 ^ 60).natAbs ≤ 1470459911))
      romWords.reverse).all id = true := by
  decide +kernel

theorem check_double_angle :
    (romWords.zipWith (fun a b =>
        decide (((b : Int) * 2 ^ 30 - (2 * ((a : Int) * a) - 2 ^ 60)).natAbs ≤ 2613329096))
      (evenEntries romWords)).all id = true := by
  decide +kernel

theorem qrom_succ_lt {i : Nat} (hi : i < 8192) : qrom (i + 1) < qrom i := by
  have hnext : romWords.tail[i]? = some (qrom (i + 1)) := by
    rw [List.getElem?_tail, getElem?_romWords hi]
  exact of_decide_eq_true (of_all_zipWith check_decreasing (getElem?_romWords hi.le) hnext)

theorem qrom_add_mirror_le {i : Nat} (hi : i ≤ 8192) : qrom i + qrom (8192 - i) ≤ 1518500250 :=
  of_decide_eq_true
    (of_all_zipWith check_add_mirror (getElem?_romWords hi) (getElem?_reverse_romWords hi))

theorem abs_qrom_sq_add_mirror_sq_sub_le {i : Nat} (hi : i ≤ 8192) :
    |(qrom i : Int) * qrom i + (qrom (8192 - i) : Int) * qrom (8192 - i) - 2 ^ 60| ≤
      1470459911 := by
  rw [Int.abs_eq_natAbs]
  exact mod_cast of_decide_eq_true
    (of_all_zipWith check_sq_add_mirror_sq (getElem?_romWords hi) (getElem?_reverse_romWords hi))

theorem abs_qrom_double_angle_sub_le {i : Nat} (hi : i ≤ 4096) :
    |(qrom (2 * i) : Int) * 2 ^ 30 - (2 * ((qrom i : Int) * qrom i) - 2 ^ 60)| ≤ 2613329096 := by
  have heven : (evenEntries romWords)[i]? = some (qrom (2 * i)) := by
    rw [getElem?_evenEntries, getElem?_romWords (by omega)]
  rw [Int.abs_eq_natAbs]
  exact mod_cast of_decide_eq_true
    (of_all_zipWith check_double_angle (getElem?_romWords (by omega)) heven)

/-! ## The order of the words -/

theorem qrom_zero : qrom 0 = 2 ^ 30 := rfl

theorem qrom_last : qrom 8192 = 0 := rfl

theorem qrom_strictAntiOn : StrictAntiOn qrom (Set.Iic 8192) :=
  strictAntiOn_of_succ_lt Set.ordConnected_Iic fun _ _ _ hi => qrom_succ_lt hi

theorem qrom_pos {i : Nat} (hi : i < 8192) : 0 < qrom i :=
  qrom_strictAntiOn hi.le (Set.mem_Iic.mpr le_rfl) hi

theorem qrom_le {i : Nat} (hi : i ≤ 8192) : qrom i ≤ 2 ^ 30 :=
  qrom_strictAntiOn.antitoneOn (Nat.zero_le 8192) hi (Nat.zero_le i)

end Sys2Proof.Machine
end

section
/-! PROOF. The twiddle lookup (43_twiddle_rom R138 to R141, R144). -/

namespace Sys2Proof.Machine

/-! ## The half circle -/

theorem tw_of_le {q : Nat} (hq : q ≤ 8192) : tw q = ⟨qrom q, qrom (8192 - q)⟩ := if_pos hq

theorem tw_of_lt {q : Nat} (hq : 8192 < q) :
    tw q = ⟨-(qrom (16384 - q) : Int), qrom (q - 8192)⟩ := if_neg hq.not_ge

theorem angleIndex_eq (s j : Nat) : angleIndex s j = j * 2 ^ (15 - s) := Nat.shiftLeft_eq _ _

theorem angleIndex_eq_div {s : Nat} (h15 : s ≤ 15) (j : Nat) :
    angleIndex s j = j * 32768 / 2 ^ s := by
  have hsplit : 2 ^ (15 - s) * 2 ^ s = 32768 := by rw [← pow_add, Nat.sub_add_cancel h15]; rfl
  rw [angleIndex_eq, ← hsplit, ← mul_assoc, Nat.mul_div_cancel _ (Nat.two_pow_pos s)]

theorem angleIndex_add_le {s j : Nat} (h1 : 1 ≤ s) (h15 : s ≤ 15) (hj : j < 2 ^ (s - 1)) :
    angleIndex s j + 2 ^ (15 - s) ≤ 16384 :=
  calc angleIndex s j + 2 ^ (15 - s) = (j + 1) * 2 ^ (15 - s) := by rw [angleIndex_eq]; ring
    _ ≤ 2 ^ (s - 1) * 2 ^ (15 - s) := Nat.mul_le_mul_right _ hj
    _ = 2 ^ 14 := by rw [← pow_add]; congr 1; omega

theorem angleIndex_lt {s j : Nat} (h1 : 1 ≤ s) (h15 : s ≤ 15) (hj : j < 2 ^ (s - 1)) :
    angleIndex s j < 16384 :=
  (Nat.lt_add_of_pos_right (Nat.two_pow_pos _)).trans_le (angleIndex_add_le h1 h15 hj)

/-- Settles O25: the second quarter reads a word before the last, so its cosine is negative. -/
theorem anglesCoverHalfCircle : Obligations.AnglesCoverHalfCircle := by
  refine ⟨fun s j h1 h15 hj => ⟨angleIndex_eq_div h15 j,
    Nat.le_sub_of_add_le (angleIndex_add_le h1 h15 hj), angleIndex_lt h1 h15 hj⟩, fun q _ => ?_⟩
  rcases le_or_gt q 8192 with hq | hq
  · simp [tw_of_le hq, hq]
  · have hpos : 0 < qrom (16384 - q) := qrom_pos (by omega)
    simp [tw_of_lt hq, hq, hq.not_ge, hpos.ne']

/-! ## The two directions -/

theorem twiddle_inverse (s j : Nat) : twiddle s j true = tw (angleIndex s j) := rfl

theorem twiddle_forward (s j : Nat) :
    twiddle s j false = ⟨(tw (angleIndex s j)).re, -(tw (angleIndex s j)).im⟩ := rfl

theorem twiddle_zero (s : Nat) (inv : Bool) : twiddle s 0 inv = ⟨2 ^ 30, 0⟩ := by
  have hangle : tw (angleIndex s 0) = ⟨2 ^ 30, 0⟩ := by
    rw [angleIndex_eq, zero_mul, tw_of_le (Nat.zero_le _), qrom_zero, qrom_last]
    rfl
  cases inv
  · rw [twiddle_forward, hangle, neg_zero]
  · rw [twiddle_inverse, hangle]

/-- Up to sign, the parts of a value over the half circle are a word and its mirror. -/
theorem exists_qrom_of_tw {q : Nat} (hq : q < 16384) :
    ∃ i ≤ 8192, |(tw q).re| = qrom i ∧ |(tw q).im| = qrom (8192 - i) := by
  rcases le_or_gt q 8192 with hle | hgt
  · exact ⟨q, hle, by simp [tw_of_le hle]⟩
  · have hmirror : 8192 - (16384 - q) = q - 8192 := by omega
    exact ⟨16384 - q, by omega, by simp [tw_of_lt hgt, hmirror]⟩

theorem exists_qrom_of_twiddle {s j : Nat} (h1 : 1 ≤ s) (h15 : s ≤ 15) (hj : j < 2 ^ (s - 1))
    (inv : Bool) :
    ∃ i ≤ 8192, |(twiddle s j inv).re| = qrom i ∧ |(twiddle s j inv).im| = qrom (8192 - i) := by
  have hparts := exists_qrom_of_tw (angleIndex_lt h1 h15 hj)
  cases inv
  · simpa only [twiddle_forward, abs_neg] using hparts
  · exact hparts

theorem abs_twiddle_le {s j : Nat} (h1 : 1 ≤ s) (h15 : s ≤ 15) (hj : j < 2 ^ (s - 1))
    (inv : Bool) : |(twiddle s j inv).re| ≤ 2 ^ 30 ∧ |(twiddle s j inv).im| ≤ 2 ^ 30 := by
  obtain ⟨i, hi, hre, him⟩ := exists_qrom_of_twiddle h1 h15 hj inv
  rw [hre, him]
  exact ⟨mod_cast qrom_le hi, mod_cast qrom_le (Nat.sub_le 8192 i)⟩

theorem abs_twiddle_add_le {s j : Nat} (h1 : 1 ≤ s) (h15 : s ≤ 15) (hj : j < 2 ^ (s - 1))
    (inv : Bool) : |(twiddle s j inv).re| + |(twiddle s j inv).im| ≤ 1518500250 := by
  obtain ⟨i, hi, hre, him⟩ := exists_qrom_of_twiddle h1 h15 hj inv
  rw [hre, him]
  exact mod_cast qrom_add_mirror_le hi

/-- Settles O24, from the two directions of the lookup and the range of the words. -/
theorem twiddleLookupIsConjugate : Obligations.TwiddleLookupIsConjugate := by
  intro s j h1 h15 hj
  rw [← angleIndex_eq]
  refine ⟨twiddle_inverse s j, twiddle_forward s j, fun inv => ?_, twiddle_zero s⟩
  obtain ⟨hre, him⟩ := abs_twiddle_le h1 h15 hj inv
  rw [abs_le] at hre him
  exact ⟨hre.1, hre.2, him⟩

/-- Settles O22: the checks of the words, their order for item 1, and for the twiddles that their
parts are a word and its mirror. -/
theorem romTableProperties : Obligations.RomTableProperties :=
  ⟨⟨qrom_zero, qrom_last, fun _ h0 hi =>
      ⟨qrom_pos hi, qrom_strictAntiOn (Nat.zero_le 8192) hi.le h0⟩⟩,
    fun _ => qrom_succ_lt, by decide, by decide, by decide,
    ⟨fun _ => qrom_add_mirror_le, rfl, fun _ _ inv h1 h15 hj =>
      ⟨abs_twiddle_add_le h1 h15 hj inv, abs_twiddle_le h1 h15 hj inv⟩⟩,
    fun _ => abs_qrom_sq_add_mirror_sq_sub_le, fun _ => abs_qrom_double_angle_sub_le⟩

end Sys2Proof.Machine
end

section
/-! PROOF. The words of the cosine ROM against the real cosines (43_twiddle_rom R137). The powers of
`e^(2 pi i / 32768)` are computed in fixed point with 60 fraction bits, one from the other, with a
bound on the error; each word is compared with the real part of its power. -/

namespace Sys2Proof.Machine

/-! ## The root of unity -/

/-- The angle of one ROM index. -/
noncomputable def romAngle : ℝ := 2 * Real.pi / 32768

/-- `e^(2 pi i / 32768)`, whose powers have the cosines of the ROM as real parts. -/
noncomputable def romRoot : ℂ := Complex.exp (romAngle * Complex.I)

theorem norm_romRoot : ‖romRoot‖ = 1 := Complex.norm_exp_ofReal_mul_I _

theorem romRoot_pow_re (i : Nat) : (romRoot ^ i).re = Real.cos (2 * Real.pi * i / 32768) := by
  have hangle : (i : ℂ) * (romAngle * Complex.I) =
      (2 * Real.pi * i / 32768 : ℝ) * Complex.I := by
    push_cast [romAngle]
    ring
  rw [romRoot, ← Complex.exp_nat_mul, hangle, Complex.exp_ofReal_mul_I_re]

theorem romAngle_nonneg : 0 ≤ romAngle := by
  unfold romAngle
  positivity

/-- The powers of the angle, from the library's 20 digits of pi. -/
theorem romAngle_pow_bounds (n : Nat) :
    (3.14159265358979323846 / 16384) ^ n ≤ romAngle ^ n ∧
      romAngle ^ n ≤ (3.14159265358979323847 / 16384) ^ n := by
  have hlow : 3.14159265358979323846 / 16384 ≤ romAngle := by
    unfold romAngle
    linarith [Real.pi_gt_d20]
  have hhigh : romAngle ≤ 3.14159265358979323847 / 16384 := by
    unfold romAngle
    linarith [Real.pi_lt_d20]
  exact ⟨pow_le_pow_left₀ (by norm_num) hlow n, pow_le_pow_left₀ romAngle_nonneg hhigh n⟩

/-- The Taylor polynomials of cosine and sine of degree 4. -/
noncomputable def taylorExp (x : ℝ) : ℂ := ⟨1 - x ^ 2 / 2 + x ^ 4 / 24, x - x ^ 3 / 6⟩

theorem sum_eq_taylorExp (x : ℝ) :
    ∑ m ∈ Finset.range 5, ((x : ℂ) * Complex.I) ^ m / m.factorial = taylorExp x := by
  rw [taylorExp, Complex.mk_eq_add_mul_I]
  simp only [Finset.sum_range_succ, Finset.sum_range_zero, Nat.factorial]
  push_cast
  linear_combination ((x : ℂ) ^ 2 / 2 + x ^ 3 / 6 * Complex.I +
    x ^ 4 / 24 * (Complex.I ^ 2 - 1)) * Complex.I_sq

theorem norm_exp_sub_taylorExp_le {x : ℝ} (hx0 : 0 ≤ x) (hx1 : x ≤ 1) :
    ‖Complex.exp (x * Complex.I) - taylorExp x‖ ≤ x ^ 5 / 100 := by
  have hnorm : ‖(x : ℂ) * Complex.I‖ = x := by simp [abs_of_nonneg hx0]
  have hbound := Complex.exp_bound (hnorm.trans_le hx1) (n := 5) (by decide)
  rw [sum_eq_taylorExp, hnorm] at hbound
  calc _ ≤ _ := hbound
    _ = x ^ 5 / 100 := by norm_num [Nat.factorial, div_eq_mul_inv]

/-! ## Fixed point with 60 fraction bits -/

theorem norm_mk_le {x y c : ℝ} (hx : |x| ≤ c) (hy : |y| ≤ c) : ‖(⟨x, y⟩ : ℂ)‖ ≤ 2 * c :=
  calc ‖(⟨x, y⟩ : ℂ)‖ ≤ |x| + |y| := Complex.norm_le_abs_re_add_abs_im _
    _ ≤ 2 * c := by linarith

/-- A complex integer as a complex number. -/
def complexOf (z : Cplx) : ℂ := ⟨z.re, z.im⟩

/-- `romRoot` in Q60, each component rounded to nearest. -/
def rootQ60 : Cplx := ⟨1152921483412032977, 221069928396204⟩

theorem norm_rootQ60_le : ‖complexOf rootQ60‖ ≤ 2 ^ 60 := by
  rw [← sq_le_sq₀ (norm_nonneg _) (by norm_num), Complex.sq_norm, Complex.normSq_apply]
  norm_num [complexOf, rootQ60]

theorem norm_rootQ60_sub_taylorExp_le :
    ‖complexOf rootQ60 - 2 ^ 60 * taylorExp romAngle‖ ≤ 2 * (2 / 5) := by
  obtain ⟨hlow1, hhigh1⟩ := romAngle_pow_bounds 1
  obtain ⟨hlow2, hhigh2⟩ := romAngle_pow_bounds 2
  obtain ⟨hlow3, hhigh3⟩ := romAngle_pow_bounds 3
  obtain ⟨hlow4, hhigh4⟩ := romAngle_pow_bounds 4
  have hparts : complexOf rootQ60 - 2 ^ 60 * taylorExp romAngle =
      ⟨1152921483412032977 - 2 ^ 60 * (1 - romAngle ^ 2 / 2 + romAngle ^ 4 / 24),
        221069928396204 - 2 ^ 60 * (romAngle - romAngle ^ 3 / 6)⟩ := by
    apply Complex.ext <;> norm_num [complexOf, rootQ60, taylorExp]
  rw [hparts]
  apply norm_mk_le
  · rw [abs_le]
    constructor <;> linarith
  · rw [abs_le]
    constructor <;> linarith

theorem norm_rootQ60_sub_le : ‖complexOf rootQ60 - 2 ^ 60 * romRoot‖ ≤ 1 := by
  have hle1 := (romAngle_pow_bounds 1).2
  have hle5 := (romAngle_pow_bounds 5).2
  have htaylor : ‖romRoot - taylorExp romAngle‖ ≤ romAngle ^ 5 / 100 :=
    norm_exp_sub_taylorExp_le romAngle_nonneg (by linarith)
  calc ‖complexOf rootQ60 - 2 ^ 60 * romRoot‖
      = ‖(complexOf rootQ60 - 2 ^ 60 * taylorExp romAngle) -
          2 ^ 60 * (romRoot - taylorExp romAngle)‖ := by congr 1; ring
    _ ≤ ‖complexOf rootQ60 - 2 ^ 60 * taylorExp romAngle‖ +
          ‖2 ^ 60 * (romRoot - taylorExp romAngle)‖ := norm_sub_le _ _
    _ ≤ 2 * (2 / 5) + 2 ^ 60 * (romAngle ^ 5 / 100) := by
      rw [norm_mul, norm_pow, Complex.norm_ofNat]
      exact add_le_add norm_rootQ60_sub_taylorExp_le (by gcongr)
    _ ≤ 1 := by linarith

/-- The product of two complex numbers in Q60, each component rounded down. -/
def cmulQ60 (z w : Cplx) : Cplx :=
  ⟨(z.re * w.re - z.im * w.im) / 2 ^ 60, (z.re * w.im + z.im * w.re) / 2 ^ 60⟩

theorem abs_mul_ediv_sub_le (a : Int) : |2 ^ 60 * ((a / 2 ^ 60 : Int) : ℝ) - a| ≤ 2 ^ 60 := by
  have h : |2 ^ 60 * (a / 2 ^ 60) - a| ≤ 2 ^ 60 := abs_le.mpr (by omega)
  exact_mod_cast h

theorem norm_cmulQ60_sub_le (z w : Cplx) :
    ‖2 ^ 60 * complexOf (cmulQ60 z w) - complexOf z * complexOf w‖ ≤ 2 * 2 ^ 60 := by
  have hparts : 2 ^ 60 * complexOf (cmulQ60 z w) - complexOf z * complexOf w =
      ⟨2 ^ 60 * (((z.re * w.re - z.im * w.im) / 2 ^ 60 : Int) : ℝ) -
        (z.re * w.re - z.im * w.im : Int),
      2 ^ 60 * (((z.re * w.im + z.im * w.re) / 2 ^ 60 : Int) : ℝ) -
        (z.re * w.im + z.im * w.re : Int)⟩ := by
    apply Complex.ext <;> norm_num [complexOf, cmulQ60]
  exact hparts ▸ norm_mk_le (abs_mul_ediv_sub_le _) (abs_mul_ediv_sub_le _)

/-- `z` is the `i`th power of `romRoot` in Q60, up to the error of `i` factors. -/
def NearRootPow (z : Cplx) (i : Nat) : Prop := ‖complexOf z - 2 ^ 60 * romRoot ^ i‖ ≤ 3 * i

theorem nearRootPow_zero : NearRootPow ⟨2 ^ 60, 0⟩ 0 := by
  have hone : complexOf ⟨2 ^ 60, 0⟩ = 2 ^ 60 := by apply Complex.ext <;> norm_num [complexOf]
  rw [NearRootPow, hone]
  simp

/-- A further factor adds its own error, at most 1, and that of the rounding, at most 2. -/
theorem NearRootPow.succ {z : Cplx} {i : Nat} (hz : NearRootPow z i) :
    NearRootPow (cmulQ60 z rootQ60) (i + 1) := by
  have hsplit : 2 ^ 60 * (complexOf (cmulQ60 z rootQ60) - 2 ^ 60 * romRoot ^ (i + 1)) =
      (2 ^ 60 * complexOf (cmulQ60 z rootQ60) - complexOf z * complexOf rootQ60) +
      (complexOf z - 2 ^ 60 * romRoot ^ i) * complexOf rootQ60 +
      2 ^ 60 * romRoot ^ i * (complexOf rootQ60 - 2 ^ 60 * romRoot) := by ring
  have hle : 2 ^ 60 * ‖complexOf (cmulQ60 z rootQ60) - 2 ^ 60 * romRoot ^ (i + 1)‖ ≤
      2 ^ 60 * (2 + 3 * i + 1) :=
    calc _ = ‖2 ^ 60 * (complexOf (cmulQ60 z rootQ60) - 2 ^ 60 * romRoot ^ (i + 1))‖ := by simp
      _ ≤ _ := hsplit ▸ norm_add₃_le
      _ ≤ 2 * 2 ^ 60 + 3 * i * 2 ^ 60 + 2 ^ 60 * 1 := by
        refine add_le_add_three (norm_cmulQ60_sub_le _ _) ?_ ?_
        · rw [norm_mul]
          exact mul_le_mul hz norm_rootQ60_le (norm_nonneg _) (by positivity)
        · rw [norm_mul]
          simpa [norm_romRoot] using norm_rootQ60_sub_le
      _ = 2 ^ 60 * (2 + 3 * i + 1) := by ring
  have herror := le_of_mul_le_mul_left hle (by positivity)
  rw [NearRootPow, Nat.cast_succ]
  linarith

/-! ## The words against the powers -/

/-- `q` is less than one half from `2^30 cos(2 pi i / 32768)`. -/
def NearestCos (q i : Nat) : Prop :=
  |(q : ℝ) - 2 ^ 30 * Real.cos (2 * Real.pi * i / 32768)| < 1 / 2

/-- Each word is nearer than one half, less the error of its power, to the real part of that power;
the first word has the index `i` and the power `z`. -/
def romWalk : List Nat → Nat → Cplx → Bool
  | [], _, _ => true
  | q :: l, i, z =>
    decide ((q * 2 ^ 30 - z.re).natAbs + 3 * i < 2 ^ 29) && romWalk l (i + 1) (cmulQ60 z rootQ60)

theorem romWalk_romWords : romWalk romWords 0 ⟨2 ^ 60, 0⟩ = true := by decide +kernel

theorem NearRootPow.nearestCos {z : Cplx} {i q : Nat} (hz : NearRootPow z i)
    (h : (q * 2 ^ 30 - z.re).natAbs + 3 * i < 2 ^ 29) : NearestCos q i := by
  have hword : |(q : ℝ) * 2 ^ 30 - z.re| + (3 * i : ℝ) < 2 ^ 29 := by
    zify at h
    exact_mod_cast h
  have hpower : |(z.re : ℝ) - 2 ^ 60 * Real.cos (2 * Real.pi * i / 32768)| ≤ (3 * i : ℝ) := by
    have hre : (complexOf z - 2 ^ 60 * romRoot ^ i).re =
        z.re - 2 ^ 60 * Real.cos (2 * Real.pi * i / 32768) := by
      rw [← romRoot_pow_re]
      norm_num [complexOf]
    exact hre ▸ (Complex.abs_re_le_norm _).trans hz
  rw [NearestCos, abs_lt]
  obtain ⟨hpower1, hpower2⟩ := abs_le.mp hpower
  obtain ⟨hword1, hword2⟩ := abs_lt.mp (lt_sub_iff_add_lt.mpr hword)
  constructor <;> linarith

theorem romWalk_nearestCos {l : List Nat} {i : Nat} {z : Cplx} (h : romWalk l i z = true)
    (hz : NearRootPow z i) {k q : Nat} (hq : l[k]? = some q) : NearestCos q (i + k) := by
  induction l generalizing i z k with
  | nil => simp at hq
  | cons q' l ih =>
    simp only [romWalk, Bool.and_eq_true, decide_eq_true_eq] at h
    obtain ⟨hword, hrest⟩ := h
    cases k with
    | zero =>
      obtain rfl : q' = q := by simpa using hq
      exact hz.nearestCos hword
    | succ k =>
      have hnear := ih hrest hz.succ (by simpa using hq)
      rwa [Nat.add_right_comm] at hnear

theorem qrom_nearestCos {i : Nat} (hi : i ≤ 8192) : NearestCos (qrom i) i := by
  simpa using romWalk_nearestCos romWalk_romWords nearRootPow_zero (getElem?_romWords hi)

/-- Settles O23: two integers less than one half from the same number are equal. -/
theorem romHoldsNearestCosines : Obligations.RomHoldsNearestCosines := by
  refine ⟨fun i hi => ⟨qrom_nearestCos hi, fun t ht => ?_, qrom_le hi⟩, fun _ => qrom_succ_lt⟩
  have hword := qrom_nearestCos hi
  rw [NearestCos, abs_sub_comm] at hword
  have hdist := (abs_sub_le (t : ℝ) _ (qrom i)).trans_lt (add_lt_add ht hword)
  rw [add_halves] at hdist
  exact sub_eq_zero.mp (Int.abs_lt_one_iff.mp (mod_cast hdist))

end Sys2Proof.Machine
end

section
/-! PROOF. The twiddle multiply and the butterfly (44_complex_arith R154, R156, R157): where the rounding
has nothing to round, and how large a rounded product can be. -/

namespace Sys2Proof

/-- Both parts have magnitude at most `A`. -/
def Cplx.Within (c : Cplx) (A : Int) : Prop := |c.re| ≤ A ∧ |c.im| ≤ A

theorem Cplx.Within.nonneg {c : Cplx} {A : Int} (h : c.Within A) : 0 ≤ A :=
  (abs_nonneg _).trans h.1

theorem Cplx.Within.mono {c : Cplx} {A B : Int} (h : c.Within A) (hAB : A ≤ B) : c.Within B :=
  ⟨h.1.trans hAB, h.2.trans hAB⟩

end Sys2Proof

namespace Sys2Proof.Machine

/-! ## More about the rounding shift -/

theorem rhazShr_two_pow_mul (a : Int) (k : Nat) : rhazShr (2 ^ k * a) k = a := by
  obtain ⟨hnear, -⟩ := roundsToNearestTiesAway (2 ^ k * a) k
  have hunit : (0 : Int) < 2 ^ k := by positivity
  rw [← mul_sub, abs_mul, abs_of_pos hunit] at hnear
  have hlt : |rhazShr (2 ^ k * a) k - a| < 1 := by nlinarith
  exact sub_eq_zero.mp (Int.abs_lt_one_iff.mp hlt)

theorem two_pow_mul_rhazShr_of_dvd {v : Int} {k : Nat} (h : 2 ^ k ∣ v) :
    2 ^ k * rhazShr v k = v := by
  obtain ⟨a, rfl⟩ := h
  rw [rhazShr_two_pow_mul]

theorem rhazShr_nonneg {v : Int} (k : Nat) (hv : 0 ≤ v) : 0 ≤ rhazShr v k := by
  rcases k.eq_zero_or_pos with rfl | hk
  · exact hv
  · rw [rhazShr_of_nonneg hk hv]
    positivity

/-- The magnitude of a rounded value is the rounded magnitude, by oddness. -/
theorem abs_rhazShr (v : Int) (k : Nat) : |rhazShr v k| = rhazShr |v| k := by
  rcases le_total 0 v with hv | hv
  · rw [abs_of_nonneg hv, abs_of_nonneg (rhazShr_nonneg k hv)]
  · have hneg := rhazShr_nonneg k (neg_nonneg.mpr hv)
    rw [abs_of_nonpos hv, ← abs_of_nonneg hneg, rhazShr_neg, abs_neg]

theorem abs_rhazShr_le_of_abs_le {v C : Int} {k : Nat} (hk : 0 < k) (h : |v| ≤ C) :
    |rhazShr v k| ≤ (C + 2 ^ (k - 1)) / 2 ^ k := by
  rw [abs_rhazShr, rhazShr_of_nonneg hk (abs_nonneg v)]
  exact Int.ediv_le_ediv (by positivity) (by omega)

/-- Rounding division by a power of two grows no magnitude (44_complex_arith R160). -/
theorem abs_rhazShr_le_abs (v : Int) (k : Nat) : |rhazShr v k| ≤ |v| := by
  rcases k.eq_zero_or_pos with rfl | hk
  · rfl
  rcases eq_or_ne v 0 with rfl | hv
  · simp
  have hv1 : 1 ≤ |v| := Int.one_le_abs hv
  have hhalf : (1 : Int) ≤ 2 ^ (k - 1) := one_le_pow₀ (by norm_num)
  have hunit := mul_pow_sub_one hk.ne' (2 : Int)
  refine (abs_rhazShr_le_of_abs_le hk le_rfl).trans (Int.ediv_le_of_le_mul (by positivity) ?_)
  nlinarith [mul_nonneg (sub_nonneg.mpr hv1) (sub_nonneg.mpr hhalf)]

/-! ## The twiddle multiply (44_complex_arith R153, R154) -/

theorem cmulQ30_eq (b w : Cplx) :
    cmulQ30 b w =
      ⟨rhazShr (b.re * w.re - b.im * w.im) 30, rhazShr (b.re * w.im + b.im * w.re) 30⟩ := rfl

/-- A Gaussian integer in Q30 multiplies exactly. -/
theorem cmulQ30_gaussian (b : Cplx) (c d : Int) :
    cmulQ30 b ⟨2 ^ 30 * c, 2 ^ 30 * d⟩ = ⟨b.re * c - b.im * d, b.re * d + b.im * c⟩ := by
  have hre : b.re * (2 ^ 30 * c) - b.im * (2 ^ 30 * d) = 2 ^ 30 * (b.re * c - b.im * d) := by ring
  have him : b.re * (2 ^ 30 * d) + b.im * (2 ^ 30 * c) = 2 ^ 30 * (b.re * d + b.im * c) := by ring
  rw [cmulQ30_eq, hre, him, rhazShr_two_pow_mul, rhazShr_two_pow_mul]

theorem cmulQ30_one (b : Cplx) : cmulQ30 b ⟨2 ^ 30, 0⟩ = b := by
  simpa using cmulQ30_gaussian b 1 0

theorem cmulQ30_neg_i (b : Cplx) : cmulQ30 b ⟨0, -2 ^ 30⟩ = ⟨b.im, -b.re⟩ := by
  simpa using cmulQ30_gaussian b 0 (-1)

theorem cmulQ30_i (b : Cplx) : cmulQ30 b ⟨0, 2 ^ 30⟩ = ⟨-b.im, b.re⟩ := by
  simpa using cmulQ30_gaussian b 0 1

theorem cmulQ30_zero (w : Cplx) : cmulQ30 ⟨0, 0⟩ w = ⟨0, 0⟩ := by
  simp [cmulQ30_eq]

theorem cmulQ30_neg (b w : Cplx) :
    cmulQ30 ⟨-b.re, -b.im⟩ w = ⟨-(cmulQ30 b w).re, -(cmulQ30 b w).im⟩ := by
  simp only [cmulQ30_eq, ← rhazShr_neg]
  congr 2 <;> ring

theorem cmulQ30_conj (b w : Cplx) :
    cmulQ30 ⟨b.re, -b.im⟩ ⟨w.re, -w.im⟩ = ⟨(cmulQ30 b w).re, -(cmulQ30 b w).im⟩ := by
  simp only [cmulQ30_eq, ← rhazShr_neg]
  congr 2 <;> ring

/-- The product of `b` and `w` is a pair of multiples of `2^30`, so that rescaling loses nothing. -/
def ExactProduct (b w : Cplx) : Prop :=
  2 ^ 30 * (cmulQ30 b w).re = b.re * w.re - b.im * w.im ∧
  2 ^ 30 * (cmulQ30 b w).im = b.re * w.im + b.im * w.re

theorem exactProduct_of_dvd (b : Cplx) {w : Cplx} (hre : 2 ^ 30 ∣ w.re) (him : 2 ^ 30 ∣ w.im) :
    ExactProduct b w :=
  ⟨two_pow_mul_rhazShr_of_dvd (dvd_sub (hre.mul_left _) (him.mul_left _)),
    two_pow_mul_rhazShr_of_dvd (dvd_add (him.mul_left _) (hre.mul_left _))⟩

/-! ## Sizes (44_complex_arith R154 item 8) -/

theorem abs_mul_add_mul_le {x y u v A W : Int} (hx : |x| ≤ A) (hy : |y| ≤ A)
    (hW : |u| + |v| ≤ W) : |x * u + y * v| ≤ A * W :=
  calc |x * u + y * v| ≤ |x| * |u| + |y| * |v| := by
        simpa only [abs_mul] using abs_add_le (x * u) (y * v)
    _ ≤ A * |u| + A * |v| := by gcongr
    _ = A * (|u| + |v|) := by ring
    _ ≤ A * W := mul_le_mul_of_nonneg_left hW ((abs_nonneg x).trans hx)

/-- A product is bounded by the operand and the sum of the twiddle's magnitudes. -/
theorem cmulQ30_within {b w : Cplx} {A W : Int} (hb : b.Within A) (hW : |w.re| + |w.im| ≤ W) :
    (cmulQ30 b w).Within ((A * W + 2 ^ 29) / 2 ^ 30) := by
  obtain ⟨hre, him⟩ := hb
  constructor
  · refine abs_rhazShr_le_of_abs_le (k := 30) (by decide) ?_
    have hsum := abs_mul_add_mul_le hre him (u := w.re) (v := -w.im) (W := W) (by rwa [abs_neg])
    rwa [mul_neg, ← sub_eq_add_neg] at hsum
  · exact abs_rhazShr_le_of_abs_le (k := 30) (by decide)
      (abs_mul_add_mul_le hre him (by rwa [add_comm]))

theorem cmulQ30_within_two_mul {b w : Cplx} {A : Int} (hb : b.Within A) (hw : w.Within (2 ^ 30)) :
    (cmulQ30 b w).Within (2 * A) := by
  obtain ⟨hre, him⟩ := hw
  refine (cmulQ30_within hb (W := 2 ^ 31) (by omega)).mono ?_
  omega

/-- Settles O27: multiples of `2^30` for items 1 and 2, oddness of the rounding for items 4 and 5, its
half-unit error for item 6, `1/2 + 1/2` for item 7, and the bounds of the sum of products for item 8. -/
theorem twiddleMultiplyLaws : Obligations.TwiddleMultiplyLaws := by
  refine ⟨cmulQ30_one, fun b => ⟨cmulQ30_neg_i b, cmulQ30_i b⟩, cmulQ30_zero, cmulQ30_neg,
    cmulQ30_conj, fun b w => ⟨(roundsToNearestTiesAway _ 30).1, (roundsToNearestTiesAway _ 30).1⟩,
    ⟨⟨1, 0⟩, ⟨1, 0⟩, ⟨2 ^ 29, 0⟩, by decide⟩, fun b w A hre him hwre hwim => ?_⟩
  have hb : b.Within A := ⟨hre, him⟩
  obtain ⟨hcrude_re, hcrude_im⟩ := cmulQ30_within_two_mul hb ⟨hwre, hwim⟩
  refine ⟨hcrude_re, hcrude_im, fun hW => ?_⟩
  obtain ⟨hsharp_re, hsharp_im⟩ := cmulQ30_within hb hW
  have hA := hb.nonneg
  exact ⟨hsharp_re, hsharp_im, by omega⟩

/-! ## The butterfly (44_complex_arith R157) -/

theorem bfly_eq (a b w : Cplx) : bfly a b w = (cadd a (cmulQ30 b w), csub a (cmulQ30 b w)) := rfl

theorem bfly_one (a b : Cplx) : bfly a b ⟨2 ^ 30, 0⟩ = (cadd a b, csub a b) := by
  rw [bfly_eq, cmulQ30_one]

theorem bfly_neg_i (a b : Cplx) :
    bfly a b ⟨0, -2 ^ 30⟩ = (cadd a ⟨b.im, -b.re⟩, csub a ⟨b.im, -b.re⟩) := by
  rw [bfly_eq, cmulQ30_neg_i]

theorem cadd_bfly (a b w : Cplx) :
    cadd (bfly a b w).1 (bfly a b w).2 = ⟨2 * a.re, 2 * a.im⟩ := by
  simp only [bfly_eq, cadd, csub]
  congr 1 <;> ring

theorem bfly_zero (a w : Cplx) : bfly a ⟨0, 0⟩ w = (a, a) := by
  simp [bfly_eq, cmulQ30_zero, cadd, csub]

/-- Settles O28: the definition, its corner cases, and the worked examples by evaluation. -/
theorem butterflyLaws : Obligations.ButterflyLaws :=
  ⟨fun a b w => ⟨bfly_eq a b w, cadd_bfly a b w, bfly_zero a w, bfly_one a b⟩, by decide⟩

/-- Both results of a butterfly are within three times the bound of its operands. -/
theorem bfly_within {a b w : Cplx} {A : Int} (ha : a.Within A) (hb : b.Within A)
    (hw : w.Within (2 ^ 30)) :
    (bfly a b w).1.Within (3 * A) ∧ (bfly a b w).2.Within (3 * A) := by
  obtain ⟨hare, haim⟩ := ha
  obtain ⟨htre, htim⟩ := cmulQ30_within_two_mul hb hw
  have hsum : ∀ x y : Int, |x| ≤ A → |y| ≤ 2 * A → |x + y| ≤ 3 * A ∧ |x - y| ≤ 3 * A := by
    intro x y hx hy
    rw [abs_le] at hx hy
    constructor <;> rw [abs_le] <;> constructor <;> linarith
  exact ⟨⟨(hsum _ _ hare htre).1, (hsum _ _ haim htim).1⟩,
    ⟨(hsum _ _ hare htre).2, (hsum _ _ haim htim).2⟩⟩

/-! ## The twiddles of the first passes (44_complex_arith R156) -/

/-- A quarter of the way through the positions of a pass the twiddle is `-i` forward, `+i` inverse. -/
theorem twiddle_quarter {s : Nat} (h2 : 2 ≤ s) (h15 : s ≤ 15) (inv : Bool) :
    twiddle s (2 ^ (s - 2)) inv = ⟨0, if inv then 2 ^ 30 else -2 ^ 30⟩ := by
  have hangle : angleIndex s (2 ^ (s - 2)) = 8192 := by
    rw [angleIndex_eq, ← pow_add, show s - 2 + (15 - s) = 13 by omega]
    rfl
  have htw : tw (angleIndex s (2 ^ (s - 2))) = ⟨0, 2 ^ 30⟩ := by
    rw [hangle, tw_of_le le_rfl, qrom_last, qrom_zero]
    rfl
  cases inv
  · rw [twiddle_forward, htw]
    rfl
  · rw [twiddle_inverse, htw]
    rfl

theorem exactProduct_twiddle_zero (s : Nat) (inv : Bool) (b : Cplx) :
    ExactProduct b (twiddle s 0 inv) := by
  rw [twiddle_zero]
  exact exactProduct_of_dvd b dvd_rfl (dvd_zero _)

theorem exactProduct_twiddle_quarter {s : Nat} (h2 : 2 ≤ s) (h15 : s ≤ 15) (inv : Bool) (b : Cplx) :
    ExactProduct b (twiddle s (2 ^ (s - 2)) inv) := by
  rw [twiddle_quarter h2 h15]
  refine exactProduct_of_dvd b (dvd_zero _) ?_
  cases inv
  · exact dvd_neg.mpr dvd_rfl
  · exact dvd_rfl

/-- Settles O29: the positions named use `1`, `-i` and `+i` only, and at pass 3, positions 1 and 3, the
operand 1 gives an odd multiple of `1/2^30`. -/
theorem firstTwoPassesAreExact : Obligations.FirstTwoPassesAreExact := by
  refine ⟨fun s j inv b h1 h2 hj => ?_, fun j inv b hj => ?_, fun inv => ⟨⟨1, 0⟩, ?_⟩⟩
  · obtain rfl | rfl : s = 1 ∨ s = 2 := by omega
    · obtain rfl : j = 0 := by omega
      exact exactProduct_twiddle_zero 1 inv b
    · obtain rfl | rfl : j = 0 ∨ j = 1 := by omega
      · exact exactProduct_twiddle_zero 2 inv b
      · exact exactProduct_twiddle_quarter (s := 2) le_rfl (by decide) inv b
  · rcases hj with rfl | rfl
    · exact exactProduct_twiddle_zero 3 inv b
    · exact exactProduct_twiddle_quarter (s := 3) (by decide) (by decide) inv b
  · cases inv <;> decide

end Sys2Proof.Machine
end

section
/-! PROOF. The passes on exact integers. No result of a butterfly is cut when it is stored
(44_complex_arith R160), so after pass `k` every block of `2^k` words holds the decimation in time of what the
block held before the passes, read in bit-reversed order (45_transform_engine R176, R179). -/

namespace Sys2Proof.Machine

/-! ## Bounded samples are stored as they are -/

theorem stored_of_abs_lt {v : Int} (h : |v| < 2 ^ 63) : stored v = v := by
  rw [abs_lt] at h
  exact stored_of_fits h.1.le h.2

theorem mk_stored_of_within {c : Cplx} {A : Int} (h : c.Within A) (hA : A < 2 ^ 63) :
    (⟨stored c.re, stored c.im⟩ : Cplx) = c := by
  rw [stored_of_abs_lt (h.1.trans_lt hA), stored_of_abs_lt (h.2.trans_lt hA)]

/-- Every sample below `N` is within `A`. -/
def Memory.Bounded (m : Memory) (N : Nat) (A : Int) : Prop :=
  ∀ p < N, (m.readSample p).Within A

theorem inputSample_within (payload : List Sample) (i : Nat) :
    (inputSample payload i).Within (2 ^ 31) := by
  have hword : ∀ v : BitVec 32, |v.toInt| ≤ 2 ^ 31 := fun v =>
    abs_le.mpr ⟨v.le_toInt, v.toInt_lt.le⟩
  exact ⟨hword _, hword _⟩

theorem bounded_permuteLoad {m : Memory} {n : Nat} {payload : List Sample} (h : m.wf) (hn : n ≤ 15)
    (htab : m.HoldsBitrev n) (hlen : payload.length = 2 ^ n) :
    (permuteLoad payload m).Bounded (2 ^ n) (2 ^ 31) := by
  intro p hp
  rw [readSample_permuteLoad h hn htab hlen hp]
  exact inputSample_within payload _

/-! ## One pass -/

/-- What pass `s` computes for position `p`, before it is stored. -/
def passResult (inv : Bool) (s : Nat) (m : Memory) (p : Nat) : Cplx :=
  let base := p / 2 ^ s * 2 ^ s
  let j := p % 2 ^ (s - 1)
  let r := bfly (m.readSample (base + j)) (m.readSample (base + j + 2 ^ (s - 1))) (twiddle s j inv)
  if p = base + j then r.1 else r.2

theorem passResult_within {m : Memory} {N s : Nat} {A : Int} (hm : m.Bounded N A) (inv : Bool)
    (hs : 1 ≤ s) (h15 : s ≤ 15) (hdvd : 2 ^ s ∣ N) {p : Nat} (hp : p < N) :
    (passResult inv s m p).Within (3 * A) := by
  have hj : p % 2 ^ (s - 1) < 2 ^ (s - 1) := Nat.mod_lt _ (Nat.two_pow_pos _)
  have hlower := butterflies_in_range hs (gj := (p / 2 ^ s * 2 ^ s, p % 2 ^ (s - 1))) <|
    mem_butterflies.mpr ⟨p / 2 ^ s, Nat.div_lt_div_of_lt_of_dvd hdvd hp, rfl, hj⟩
  have hupper := (Nat.le_add_right ..).trans_lt hlower
  obtain ⟨hsum, hdiff⟩ :=
    bfly_within (hm _ hupper) (hm _ hlower) (abs_twiddle_le hs h15 hj inv)
  dsimp only [passResult]
  split
  · exact hsum
  · exact hdiff

theorem readSample_pass_of_bounded {m : Memory} {N s : Nat} {A : Int} (h : m.wf)
    (hm : m.Bounded N A) (hA : 3 * A < 2 ^ 63) (inv : Bool) (hs : 1 ≤ s) (h15 : s ≤ 15)
    (hN : N ≤ Config.nMax) (hdvd : 2 ^ s ∣ N) {p : Nat} (hp : p < N) :
    (pass inv N m s).readSample p = passResult inv s m p := by
  rw [← mk_stored_of_within (passResult_within hm inv hs h15 hdvd hp) hA,
    readSample_pass h inv hs hN hdvd hp]
  simp only [passResult]
  split <;> rfl

/-! ## All passes -/

theorem passes_succ (inv : Bool) (N k : Nat) (m : Memory) :
    passes inv N (k + 1) m = pass inv N (passes inv N k m) (k + 1) := by
  rw [passes, List.range'_1_concat, List.foldl_append, Nat.add_comm 1 k]
  rfl

theorem three_pow_mul_lt {k : Nat} (hk : k ≤ 15) : (3 : Int) ^ k * 2 ^ 31 < 2 ^ 55 :=
  calc (3 : Int) ^ k * 2 ^ 31 ≤ 3 ^ 15 * 2 ^ 31 := by gcongr; norm_num
    _ < 2 ^ 55 := by norm_num

section Passes
variable {m : Memory} {n : Nat} (h : m.wf) (hn : n ≤ 15) (hm : m.Bounded (2 ^ n) (2 ^ 31))
include h hn hm

/-- 44_complex_arith R160: a pass at most triples the bound, and every tripled bound fits the words, so
that each pass leaves what it computes. -/
theorem bounded_passes (inv : Bool) {k : Nat} (hk : k ≤ n) :
    (passes inv (2 ^ n) k m).Bounded (2 ^ n) (3 ^ k * 2 ^ 31) := by
  induction k with
  | zero =>
    rw [pow_zero, one_mul]
    exact hm
  | succ k ih =>
    intro p hp
    have hbefore := ih (by omega)
    have hdvd : 2 ^ (k + 1) ∣ 2 ^ n := pow_dvd_pow 2 hk
    have hbound : (3 : Int) ^ (k + 1) * 2 ^ 31 = 3 * (3 ^ k * 2 ^ 31) := by ring
    have hfits := three_pow_mul_lt (hk.trans hn)
    rw [hbound] at hfits ⊢
    rw [passes_succ, readSample_pass_of_bounded (passes_wf h inv _ k) hbefore (by omega) inv
      (by omega) (by omega) (Nat.pow_le_pow_right two_pos hn) hdvd hp]
    exact passResult_within hbefore inv (by omega) (by omega) hdvd hp

theorem readSample_passes_succ (inv : Bool) {k p : Nat} (hk : k < n) (hp : p < 2 ^ n) :
    (passes inv (2 ^ n) (k + 1) m).readSample p =
      passResult inv (k + 1) (passes inv (2 ^ n) k m) p := by
  have hfits := three_pow_mul_lt (k := k + 1) (by omega)
  rw [passes_succ]
  exact readSample_pass_of_bounded (passes_wf h inv _ k) (bounded_passes h hn hm inv hk.le)
    (by omega) inv (by omega) (by omega) (Nat.pow_le_pow_right two_pos hn) (pow_dvd_pow 2 hk) hp

end Passes

/-! ## Decimation in time -/

/-- The samples of `m` from `base` on, in bit-reversed order of `k` bits. -/
def reversedBlock (m : Memory) (base k i : Nat) : Cplx := m.readSample (base + bitrev i k)

theorem bitrev_two_mul (i k : Nat) : bitrev (2 * i) (k + 1) = bitrev i k := by
  simp [bitrev_succ]

theorem bitrev_two_mul_add_one (i k : Nat) : bitrev (2 * i + 1) (k + 1) = 2 ^ k + bitrev i k := by
  rw [bitrev_succ, show (2 * i + 1) % 2 = 1 by omega, show (2 * i + 1) / 2 = i by omega, one_mul]

/-- The even samples of a reversed block are its first half. -/
theorem reversedBlock_even (m : Memory) (base k : Nat) :
    (fun i => reversedBlock m base (k + 1) (2 * i)) = reversedBlock m base k := by
  funext i
  rw [reversedBlock, bitrev_two_mul, reversedBlock]

/-- The odd samples of a reversed block are its second half. -/
theorem reversedBlock_odd (m : Memory) (base k : Nat) :
    (fun i => reversedBlock m base (k + 1) (2 * i + 1)) = reversedBlock m (base + 2 ^ k) k := by
  funext i
  rw [reversedBlock, bitrev_two_mul_add_one, reversedBlock, add_assoc]

/-- One level of the recursion on a reversed block is a butterfly of its two halves. -/
theorem decimationInTime_reversedBlock_succ (inv : Bool) (m : Memory) (base k q : Nat) :
    decimationInTime inv (k + 1) (reversedBlock m base (k + 1)) q =
      let j := q % 2 ^ k
      let r := bfly (decimationInTime inv k (reversedBlock m base k) j)
        (decimationInTime inv k (reversedBlock m (base + 2 ^ k) k) j) (twiddle (k + 1) j inv)
      if q < 2 ^ k then r.1 else r.2 := by
  rw [← reversedBlock_odd, ← reversedBlock_even m base k]
  rfl

/-- The transform depends on the first `2^n` samples only. -/
theorem decimationInTime_congr {inv : Bool} {n : Nat} {x y : Nat → Cplx}
    (h : ∀ i < 2 ^ n, x i = y i) (k : Nat) :
    decimationInTime inv n x k = decimationInTime inv n y k := by
  induction n generalizing x y k with
  | zero => exact h 0 Nat.one_pos
  | succ n ih =>
    rw [pow_succ] at h
    simp only [decimationInTime]
    rw [ih (fun i hi => h (2 * i) (by omega)), ih (fun i hi => h (2 * i + 1) (by omega))]

/-- Pass `k + 1` in the coordinates of its groups: place `q` of group `c` gets the butterfly of places
`q mod 2^k` of the two halves of the group. -/
theorem passResult_group (inv : Bool) (m : Memory) (c k : Nat) {q : Nat} (hq : q < 2 ^ (k + 1)) :
    passResult inv (k + 1) m (c * 2 ^ (k + 1) + q) =
      let j := q % 2 ^ k
      let r := bfly (m.readSample (2 * c * 2 ^ k + j)) (m.readSample ((2 * c + 1) * 2 ^ k + j))
        (twiddle (k + 1) j inv)
      if q < 2 ^ k then r.1 else r.2 := by
  have hgroup : (c * 2 ^ (k + 1) + q) / 2 ^ (k + 1) = c := by
    rw [mul_comm, Nat.mul_add_div (Nat.two_pow_pos _), Nat.div_eq_of_lt hq, add_zero]
  have hplace : (c * 2 ^ (k + 1) + q) % 2 ^ k = q % 2 ^ k := by
    rw [pow_succ', ← mul_assoc, Nat.mul_add_mod_self_right]
  have hfirst : c * 2 ^ (k + 1) = 2 * c * 2 ^ k := by ring
  have hsecond : 2 * c * 2 ^ k + q % 2 ^ k + 2 ^ k = (2 * c + 1) * 2 ^ k + q % 2 ^ k := by ring
  have hhalf : c * 2 ^ (k + 1) + q = c * 2 ^ (k + 1) + q % 2 ^ k ↔ q < 2 ^ k := by
    rw [Nat.add_left_cancel_iff, eq_comm, Nat.mod_eq_iff_lt (Nat.two_pow_pos k).ne']
  simp only [passResult, hgroup, Nat.add_sub_cancel, hplace, hhalf]
  simp only [hfirst, hsecond]

theorem block_lt {n k c q : Nat} (hk : k ≤ n) (hc : c < 2 ^ (n - k)) (hq : q < 2 ^ k) :
    c * 2 ^ k + q < 2 ^ n :=
  calc c * 2 ^ k + q < (c + 1) * 2 ^ k := by rw [add_one_mul]; omega
    _ ≤ 2 ^ (n - k) * 2 ^ k := Nat.mul_le_mul_right _ hc
    _ = 2 ^ n := by rw [← pow_add, Nat.sub_add_cancel hk]

/-- After `k` passes place `q` of block `c` holds the decimation in time of that block of `2^k` words. -/
theorem readSample_passes_block {m : Memory} {n : Nat} (h : m.wf) (hn : n ≤ 15)
    (hm : m.Bounded (2 ^ n) (2 ^ 31)) (inv : Bool) {k : Nat} (hk : k ≤ n) {c q : Nat}
    (hc : c < 2 ^ (n - k)) (hq : q < 2 ^ k) :
    (passes inv (2 ^ n) k m).readSample (c * 2 ^ k + q) =
      decimationInTime inv k (reversedBlock m (c * 2 ^ k) k) q := by
  induction k generalizing c q with
  | zero =>
    obtain rfl : q = 0 := by omega
    rfl
  | succ k ih =>
    have hj : q % 2 ^ k < 2 ^ k := Nat.mod_lt q (Nat.two_pow_pos k)
    have hfirst : c * 2 ^ (k + 1) = 2 * c * 2 ^ k := by ring
    have hsecond : c * 2 ^ (k + 1) + 2 ^ k = (2 * c + 1) * 2 ^ k := by ring
    have hhalves : 2 ^ (n - k) = 2 * 2 ^ (n - (k + 1)) := by
      rw [← pow_succ', show n - (k + 1) + 1 = n - k by omega]
    rw [readSample_passes_succ h hn hm inv hk (block_lt hk hc hq), passResult_group inv _ c k hq,
      decimationInTime_reversedBlock_succ, hsecond, hfirst]
    simp only [ih (c := 2 * c) (by omega) (by omega) hj,
      ih (c := 2 * c + 1) (by omega) (by omega) hj]

/-- The passes over a loaded payload leave its decimation in time, in natural order. -/
theorem readSample_passes_permuteLoad {m : Memory} {n : Nat} {payload : List Sample} (h : m.wf)
    (hn : n ≤ 15) (htab : m.HoldsBitrev n) (hlen : payload.length = 2 ^ n) (inv : Bool) {k : Nat}
    (hk : k < 2 ^ n) :
    (passes inv (2 ^ n) n (permuteLoad payload m)).readSample k =
      decimationInTime inv n (inputSample payload) k := by
  have hblock := readSample_passes_block (permuteLoad_wf h payload) hn
    (bounded_permuteLoad h hn htab hlen) inv le_rfl (c := 0) (Nat.two_pow_pos _) hk
  rw [zero_mul, zero_add] at hblock
  refine hblock.trans (decimationInTime_congr (fun i hi => ?_) k)
  rw [reversedBlock, zero_add, readSample_permuteLoad h hn htab hlen (bitrev_lt_two_pow i n),
    bitrev_bitrev hi]

/-! ## A constructed unit (10_state R34) -/

section Constructed
variable {s : State} {payload : List Sample} (h : s.Inv) (hs : s.constructed = true)
  (hlen : payload.length = s.length.toNat)
include h hs hlen

theorem State.Inv.bounded_passes_permuteLoad (inv : Bool) {k : Nat} (hk : k ≤ s.log2n.toNat) :
    (passes inv s.length.toNat k (permuteLoad payload s.mem)).Bounded s.length.toNat
      (3 ^ k * 2 ^ 31) := by
  have hn : s.log2n.toNat ≤ 15 := Nat.le_of_lt_succ s.log2n.isLt
  rw [h.length_eq hs] at hlen ⊢
  exact bounded_passes (permuteLoad_wf h.mem payload) hn
    (bounded_permuteLoad h.mem hn (h.holdsBitrev hs) hlen) inv hk

theorem State.Inv.readSample_passes_permuteLoad (inv : Bool) {k : Nat} (hk : k < s.length.toNat) :
    (passes inv s.length.toNat s.log2n.toNat (permuteLoad payload s.mem)).readSample k =
      decimationInTime inv s.log2n.toNat (inputSample payload) k := by
  rw [h.length_eq hs] at hlen hk ⊢
  exact Machine.readSample_passes_permuteLoad h.mem (Nat.le_of_lt_succ s.log2n.isLt)
    (h.holdsBitrev hs) hlen inv hk

/-- Every word a transform leaves below the length is below `2^55`: the passes' bound, which the scaler
does not exceed (44_complex_arith R160). -/
theorem State.Inv.abs_transform_lt (inv : Bool) {i : Nat} (hi : i < s.length.toNat) :
    |((transform inv s.length.toNat s.log2n.toNat payload s.mem).readSample i).re| < 2 ^ 55 ∧
    |((transform inv s.length.toNat s.log2n.toNat payload s.mem).readSample i).im| < 2 ^ 55 := by
  obtain ⟨hre, him⟩ := h.bounded_passes_permuteLoad hs hlen inv le_rfl i hi
  have hfits := three_pow_mul_lt (Nat.le_of_lt_succ s.log2n.isLt)
  replace hre := hre.trans_lt hfits
  replace him := him.trans_lt hfits
  cases inv with
  | false => exact ⟨hre, him⟩
  | true =>
    have hscale : ∀ {v : Int}, |v| < 2 ^ 55 → |stored (scaleN v s.log2n.toNat)| < 2 ^ 55 := by
      intro v hv
      have hshrunk : |scaleN v s.log2n.toNat| < 2 ^ 55 := (abs_rhazShr_le_abs v _).trans_lt hv
      rwa [stored_of_abs_lt (hshrunk.trans (by norm_num))]
    have hwf := passes_wf (permuteLoad_wf h.mem payload) true s.length.toNat s.log2n.toNat
    rw [transform, if_pos rfl, readSample_scaleAll hwf (h.length_le hs), if_pos hi]
    exact ⟨hscale hre, hscale him⟩

end Constructed

/-- Settles O35: each pass at most triples the bound of the payload, and the scaler only shrinks. -/
theorem noBufferWordOverflows : Obligations.NoBufferWordOverflows :=
  ⟨by norm_num, by norm_num, by norm_num, fun _ _ inv h hs hlen =>
    ⟨fun _ hk i hi => h.bounded_passes_permuteLoad hs hlen inv hk i hi,
      fun _ hi => h.abs_transform_lt hs hlen inv hi, abs_rhazShr_le_abs⟩⟩

/-! ## Lengths 2 and 4 (44_complex_arith R156) -/

theorem decimationInTime_one (inv : Bool) (x : Nat → Cplx) (k : Nat) :
    decimationInTime inv 1 x k = if k = 0 then cadd (x 0) (x 1) else csub (x 0) (x 1) := by
  simp [decimationInTime, Nat.mod_one, twiddle_zero, bfly_one, -Int.reducePow]

theorem decimationInTime_two (x : Nat → Cplx) (k : Nat) :
    decimationInTime false 2 x k =
      let even := if k % 2 = 0 then cadd (x 0) (x 2) else csub (x 0) (x 2)
      let odd := if k % 2 = 0 then cadd (x 1) (x 3) else csub (x 1) (x 3)
      let t := if k % 2 = 0 then odd else ⟨odd.im, -odd.re⟩
      if k < 2 then cadd even t else csub even t := by
  have hquarter : twiddle 2 1 false = ⟨0, -2 ^ 30⟩ := twiddle_quarter (s := 2) le_rfl (by decide) _
  rw [decimationInTime]
  simp only [decimationInTime_one, pow_one]
  rcases Nat.mod_two_eq_zero_or_one k with hk | hk
  · simp only [hk, twiddle_zero, bfly_one, if_true]
  · simp only [hk, hquarter, bfly_neg_i, one_ne_zero, if_false]

theorem exactDft_two (x : Nat → Cplx) (k : Nat) :
    exactDft 2 x k = cadd (x 0) (quarterTurn (k * 2) (x 1)) := by
  simp [exactDft, List.range_succ, quarterTurn, cadd]

theorem exactDft_four (x : Nat → Cplx) (k : Nat) :
    exactDft 4 x k =
      cadd (cadd (cadd (x 0) (quarterTurn k (x 1))) (quarterTurn (2 * k) (x 2)))
        (quarterTurn (3 * k) (x 3)) := by
  simp [exactDft, List.range_succ, quarterTurn, cadd]

theorem decimationInTime_one_eq_exactDft (x : Nat → Cplx) {k : Nat} (hk : k < 2) :
    decimationInTime false 1 x k = exactDft 2 x k := by
  rw [decimationInTime_one, exactDft_two]
  interval_cases k
  · rfl
  · simp [quarterTurn, cadd, csub, sub_eq_add_neg]

theorem decimationInTime_two_eq_exactDft (x : Nat → Cplx) {k : Nat} (hk : k < 4) :
    decimationInTime false 2 x k = exactDft 4 x k := by
  rw [decimationInTime_two, exactDft_four]
  interval_cases k <;> simp [quarterTurn, cadd, csub] <;> omega

/-- Settles O39: the passes leave the decimation in time, which is exact where the twiddles are `1`
and `-i`. -/
theorem shortForwardIsExactDft : Obligations.ShortForwardIsExactDft := by
  intro s cnt payload h hs hshort hcnt hlen
  refine ⟨_, transformCommand_of_accepted h hs false hcnt hlen, fun k hk => ?_⟩
  refine (h.readSample_passes_permuteLoad hs hlen false hk).trans ?_
  have hpow := h.length_eq hs
  rcases hshort with htwo | hfour
  · have hn : s.log2n.toNat = 1 := Nat.pow_right_injective le_rfl (hpow.symm.trans htwo)
    rw [htwo] at hk ⊢
    rw [hn]
    exact decimationInTime_one_eq_exactDft _ hk
  · have hn : s.log2n.toNat = 2 := Nat.pow_right_injective le_rfl (hpow.symm.trans hfour)
    rw [hfour] at hk ⊢
    rw [hn]
    exact decimationInTime_two_eq_exactDft _ hk

end Sys2Proof.Machine
end

section
/-! PROOF. CONSTRUCT and DESTROY in full (45_transform_engine R171, R174). -/

namespace Sys2Proof.Machine

/-! ## CONSTRUCT -/

theorem execConstruct_of_validLength {L : BitVec 32} {s : State} (hs : s.constructed = false)
    (hL : validLength L = true) :
    execConstruct L s = .next ((construct L s).answer .ok 0#64) := by
  rcases execConstruct_cases L s with ⟨hs', -⟩ | ⟨-, -, he⟩ | ⟨-, hL', -⟩
  · cases hs.symm.trans hs'
  · exact he
  · cases hL.symm.trans hL'

/-- Settles O30: a legal length leaves the built table below it and every word from it on. -/
theorem constructCreatesInstance : Obligations.ConstructCreatesInstance := by
  refine ⟨fun L s => ⟨decode_encode (.construct L), fun hs => execConstruct_of_constructed hs L,
    fun hs hillegal => ?_⟩, fun L s k h hs hk1 hk15 hL => ?_⟩
  · rw [← validLength_iff, Bool.not_eq_true] at hillegal
    exact exec_construct_of_not_validLength hs hillegal
  · have hvalid : validLength L = true := (validLength_iff L).mpr ⟨k, hk1, hk15, hL⟩
    obtain ⟨hlen, hlog⟩ := construct_length_log2n hk15 hL s
    refine ⟨_, execConstruct_of_validLength hs hvalid, rfl, rfl, hlen, hlog, rfl, ?_, ?_, rfl⟩
    · rw [answer_mem, construct_mem, hL]
      exact holdsBitrev_buildTable h hk15
    · rw [answer_mem, construct_mem, hL]
      exact fun i hi => s.mem.sameAt_construct_above s.draws (Nat.two_pow_pos k).ne' hi

/-! ## DESTROY -/

theorem decode_destroy_of_arg_ne_zero {arg : BitVec 32} (harg : arg ≠ 0#32) (beats : List Beat) :
    decode ⟨CommandWord.make 0x02#8 arg, beats⟩ = .reserved .argBits := by
  simp [decode, harg]

/-- Where nothing is constructed and the control state is clear, DESTROY only answers. -/
theorem execDestroy_of_controlClear {s : State} (hs : s.constructed = false)
    (hclear : s.controlClear) : execDestroy s = .next (s.answer .ok 0#64) := by
  obtain ⟨hlen, hlog, hdom⟩ := hclear
  have hsame : clearControl s = s := by rw [clearControl, ← hs, ← hlen, ← hlog, ← hdom]
  rw [execDestroy_of_not_constructed hs, hsame]

/-- DESTROY answers OK in an unconstructed unit with a clear control state. -/
theorem execDestroy_clears (s : State) :
    ∃ u : State, execDestroy s = .next (u.answer .ok 0#64) ∧ u.constructed = false ∧
      u.controlClear ∧ u.inputs = s.inputs := by
  rcases execDestroy_cases s with ⟨-, he⟩ | ⟨-, he⟩ <;>
    exact ⟨_, he, rfl, ⟨rfl, rfl, rfl⟩, rfl⟩

/-- Settles O32: what DESTROY leaves is clear, and in a clear unit DESTROY only answers, the reads
are rejected and CONSTRUCT judges only the length. -/
theorem destroyTearsDown : Obligations.DestroyTearsDown := by
  refine ⟨fun arg => ⟨?_, fun harg => ?_⟩, fun s => ?_,
    fun s h hs => execDestroy_of_controlClear hs (h.clear hs)⟩
  · rintro rfl
    exact decode_encode .destroy
  · have hdec := decode_destroy_of_arg_ne_zero harg []
    exact ⟨hdec, fun s => by rw [runCommand, hdec, reject]⟩
  · obtain ⟨u, he, hu, hclear, hin⟩ := execDestroy_clears s
    have hagain : execDestroy (u.answer .ok 0#64) = .next (u.answer .ok 0#64) :=
      execDestroy_of_controlClear hu hclear
    obtain ⟨hlen, hlog, hdom⟩ := hclear
    exact ⟨_, he, rfl, hu, hlen, hlog, hdom, hin, hagain,
      fun index => ⟨readResult_of_not_constructed hu _ index,
        readResult_of_not_constructed hu _ index⟩,
      fun L hL => ⟨_, execConstruct_of_validLength hu hL, rfl⟩⟩

end Sys2Proof.Machine
end

section
/-! PROOF. The positions of one pass (45_transform_engine R179). -/

namespace Sys2Proof.Machine

/-- The upper and the lower position of every butterfly of pass `s`, in order. -/
def passPositions (N s : Nat) : List Nat :=
  (butterflies N s).flatMap fun gj => [gj.1 + gj.2, gj.1 + gj.2 + 2 ^ (s - 1)]

theorem mem_passPositions {N s p : Nat} :
    p ∈ passPositions N s ↔ ∃ gj ∈ butterflies N s, touches s gj p := by
  simp [passPositions, touches]

theorem length_passPositions (N s : Nat) :
    (passPositions N s).length = 2 * (butterflies N s).length := by
  simp [passPositions, List.length_flatMap, mul_comm]

/-- No position is touched twice: the two of a butterfly are half a group apart, and two butterflies
share none. -/
theorem nodup_passPositions {N s : Nat} (hs : 1 ≤ s) : (passPositions N s).Nodup := by
  refine List.nodup_flatMap.mpr ⟨fun gj _ => ?_, (butterflies_disjoint hs).imp fun hdis => ?_⟩
  · simp
  · intro p hp hp'
    exact hdis p ⟨by simpa [touches] using hp, by simpa [touches] using hp'⟩

theorem mem_passPositions_iff_lt {N s p : Nat} (hs : 1 ≤ s) (hdvd : 2 ^ s ∣ N) :
    p ∈ passPositions N s ↔ p < N := by
  rw [mem_passPositions]
  constructor
  · rintro ⟨gj, hgj, hp⟩
    have hlower := butterflies_in_range hs hgj
    rcases hp with rfl | rfl
    · exact (Nat.le_add_right ..).trans_lt hlower
    · exact hlower
  · intro hp
    have hgj : (p / 2 ^ s * 2 ^ s, p % 2 ^ (s - 1)) ∈ butterflies N s :=
      mem_butterflies.mpr ⟨p / 2 ^ s, Nat.div_lt_div_of_lt_of_dvd hdvd hp, rfl,
        Nat.mod_lt _ (Nat.two_pow_pos _)⟩
    exact ⟨_, hgj, (touches_iff hs hgj p).mpr ⟨rfl, rfl⟩⟩

/-- Settles O37: the positions are those below `N`, each once, so half as many butterflies. -/
theorem passTouchesEachPositionOnce : Obligations.PassTouchesEachPositionOnce := by
  intro n s hs hsn
  have hperm : (passPositions (2 ^ n) s).Perm (List.range (2 ^ n)) :=
    (List.perm_ext_iff_of_nodup (nodup_passPositions hs) List.nodup_range).mpr fun p => by
      rw [mem_passPositions_iff_lt hs (pow_dvd_pow 2 hsn), List.mem_range]
  refine ⟨?_, hperm⟩
  rw [← length_passPositions, hperm.length_eq, List.length_range]

end Sys2Proof.Machine
end

section
/-! PROOF. What FORWARD and INVERSE leave (45_transform_engine R175 to R178, R182): at each index
below the length the recursive decimation in time of the payload, which the inverse divides by the
length. -/

namespace Sys2Proof.Machine

/-- Sample `k` of a transform of length `2^n`: the decimation in time, and for the inverse its one
rounded division by the length. -/
def transformResult (inv : Bool) (n : Nat) (x : Nat → Cplx) (k : Nat) : Cplx :=
  let c := decimationInTime inv n x k
  if inv then ⟨rhazShr c.re n, rhazShr c.im n⟩ else c

section Constructed
variable {s : State} {payload : List Sample} (h : s.Inv) (hs : s.constructed = true)
  (hlen : payload.length = s.length.toNat)
include h hs hlen

/-- The passes leave the decimation in time, and the scaled value fits its word as the unscaled one
does. -/
theorem State.Inv.readSample_transformed (inv : Bool) {k : Nat} (hk : k < s.length.toNat) :
    (s.transformed inv payload).mem.readSample k =
      transformResult inv s.log2n.toNat (inputSample payload) k := by
  have hdit := h.readSample_passes_permuteLoad hs hlen inv hk
  cases inv with
  | false => exact hdit
  | true =>
    have hwithin := h.bounded_passes_permuteLoad hs hlen true le_rfl k hk
    have hfits := (three_pow_mul_lt (Nat.le_of_lt_succ s.log2n.isLt)).trans
      (by norm_num : (2 : Int) ^ 55 < 2 ^ 63)
    have hscaled : ∀ {v : Int}, |v| ≤ 3 ^ s.log2n.toNat * 2 ^ 31 →
        stored (scaleN v s.log2n.toNat) = rhazShr v s.log2n.toNat := fun hv =>
      stored_of_abs_lt (((abs_rhazShr_le_abs _ _).trans hv).trans_lt hfits)
    have hwf := passes_wf (permuteLoad_wf h.mem payload) true s.length.toNat s.log2n.toNat
    refine (readSample_scaleAll hwf (h.length_le hs) _ k).trans ?_
    rw [if_pos hk, hscaled hwithin.1, hscaled hwithin.2, hdit]
    rfl

/-- A transform writes the two buffers, the label and the response port only. -/
theorem State.Inv.transformed_frame (inv : Bool) :
    (∀ i, s.length.toNat ≤ i →
      (s.transformed inv payload).mem.readRe i = s.mem.readRe i ∧
      (s.transformed inv payload).mem.readIm i = s.mem.readIm i) ∧
    (s.transformed inv payload).answer .ok 0#64 =
      { s with
        mem := { s.mem with
          re := (s.transformed inv payload).mem.re, im := (s.transformed inv payload).mem.im }
        domain := domainAfter inv, response := some ⟨.ok, 0#64⟩ } := by
  refine ⟨fun i hi => h.transformed_above hs inv hlen hi, ?_⟩
  have htab : (s.transformed inv payload).mem.tab = s.mem.tab := transform_tab ..
  dsimp only
  rw [← htab]
  rfl

end Constructed

/-- Settles O33: an accepted FORWARD loads and runs the passes. -/
theorem forwardComputesDecimationInTime : Obligations.ForwardComputesDecimationInTime := by
  intro s cnt payload h hs hcnt hlen
  obtain ⟨habove, hframe⟩ := h.transformed_frame hs hlen false
  exact ⟨_, transformCommand_of_accepted h hs false hcnt hlen, rfl,
    fun k hk => h.readSample_transformed hs hlen false hk, habove, hframe⟩

/-- Settles O34: an accepted INVERSE also scales. -/
theorem inverseComputesScaledConjugate : Obligations.InverseComputesScaledConjugate := by
  intro s cnt payload h hs hcnt hlen
  obtain ⟨habove, hframe⟩ := h.transformed_frame hs hlen true
  exact ⟨_, transformCommand_of_accepted h hs true hcnt hlen, rfl,
    fun k hk => h.readSample_transformed hs hlen true hk, habove, hframe⟩

/-! ## Nothing else enters a transform (45_transform_engine R178) -/

theorem State.Inv.log2n_eq {s : State} (h : s.Inv) (hs : s.constructed = true) {k : Nat}
    (hk : s.length.toNat = 2 ^ k) : s.log2n.toNat = k :=
  Nat.pow_right_injective le_rfl ((h.length_eq hs).symm.trans hk)

/-- In two units of one length, one payload and direction leave the same words below the length. -/
theorem State.Inv.transformed_words_eq {s s' : State} (h : s.Inv) (h' : s'.Inv)
    (hs : s.constructed = true) (hs' : s'.constructed = true) (hlength : s.length = s'.length)
    {payload : List Sample} (hlen : payload.length = s.length.toNat) (inv : Bool) {i : Nat}
    (hi : i < s.length.toNat) :
    (s.transformed inv payload).mem.readRe i = (s'.transformed inv payload).mem.readRe i ∧
      (s.transformed inv payload).mem.readIm i = (s'.transformed inv payload).mem.readIm i := by
  have hlog : s.log2n.toNat = s'.log2n.toNat :=
    h.log2n_eq hs ((congrArg BitVec.toNat hlength).trans (h'.length_eq hs'))
  refine Memory.readSample_eq_iff.mp ?_
  rw [h.readSample_transformed hs hlen inv hi,
    h'.readSample_transformed hs' (hlength ▸ hlen) inv (hlength ▸ hi), hlog]

/-- Settles O38: both states are accepted, and what they leave below the length is a function of the
payload, the length and the direction. -/
theorem transformIgnoresOldBuffers : Obligations.TransformIgnoresOldBuffers := by
  intro s s' cnt payload h h' hs hs' hlength hcnt hlen
  have haccept := fun inv => transformCommand_of_accepted h hs inv hcnt hlen
  have haccept' := fun inv =>
    transformCommand_of_accepted h' hs' inv (hlength ▸ hcnt) (hlength ▸ hlen)
  have hwords := fun inv i => h.transformed_words_eq h' hs hs' hlength hlen inv (i := i)
  exact ⟨(permutingLoadGathersInput s payload h hs hlen).1,
    ⟨_, _, haccept false, haccept' false, hwords false⟩,
    ⟨_, _, haccept true, haccept' true, hwords true⟩⟩

/-! ## Constants and impulses (45_transform_engine R176, R177) -/

theorem inputSample_eq_of_getElem {payload : List Sample} {i : Nat} (hi : i < payload.length) :
    inputSample payload i = ⟨payload[i].re.toInt, payload[i].im.toInt⟩ := by
  rw [inputSample, List.getD_eq_getElem _ _ hi]

/-- One level of the recursion, from the two halves at the place of `k`. -/
theorem decimationInTime_succ (inv : Bool) (n : Nat) (x : Nat → Cplx) (k : Nat) :
    decimationInTime inv (n + 1) x k =
      let r := bfly (decimationInTime inv n (fun m => x (2 * m)) (k % 2 ^ n))
        (decimationInTime inv n (fun m => x (2 * m + 1)) (k % 2 ^ n))
        (twiddle (n + 1) (k % 2 ^ n) inv)
      if k < 2 ^ n then r.1 else r.2 := rfl

/-- A constant has the sum of its samples at index 0 and nothing elsewhere: the two halves are
equal, with the twiddle `1` at place 0, and both zero at every other place. -/
theorem decimationInTime_const (inv : Bool) (n : Nat) (c : Cplx) {k : Nat} (hk : k < 2 ^ n) :
    decimationInTime inv n (fun _ => c) k =
      if k = 0 then ⟨2 ^ n * c.re, 2 ^ n * c.im⟩ else ⟨0, 0⟩ := by
  induction n generalizing k with
  | zero =>
    obtain rfl : k = 0 := by omega
    simp [decimationInTime]
  | succ n ih =>
    have hpos := Nat.two_pow_pos n
    rw [decimationInTime_succ, ih (Nat.mod_lt k hpos)]
    rw [pow_succ'] at hk
    by_cases hplace : k % 2 ^ n = 0
    · rw [hplace, twiddle_zero, bfly_one, if_pos rfl]
      obtain ⟨q, rfl⟩ := Nat.dvd_of_mod_eq_zero hplace
      have hq : q < 2 := Nat.lt_of_mul_lt_mul_left (hk.trans_eq (mul_comm ..))
      obtain rfl | rfl : q = 0 ∨ q = 1 := by omega
      · simp [cadd, pow_succ, ← two_mul, mul_assoc, mul_left_comm]
      · simp [csub]
    · have hk0 : k ≠ 0 := by rintro rfl; simp at hplace
      rw [if_neg hplace, if_neg hk0, bfly_zero, ite_self]

theorem decimationInTime_zeros (inv : Bool) (n k : Nat) :
    decimationInTime inv n (fun _ => ⟨0, 0⟩) k = ⟨0, 0⟩ := by
  induction n generalizing k with
  | zero => rfl
  | succ n ih => rw [decimationInTime_succ, ih, bfly_zero, ite_self]

/-- An impulse at index 0 is `c` everywhere: the odd half is zero at every level. -/
theorem decimationInTime_impulse (inv : Bool) (n : Nat) (c : Cplx) (k : Nat) :
    decimationInTime inv n (fun i => if i = 0 then c else ⟨0, 0⟩) k = c := by
  induction n generalizing k with
  | zero => rfl
  | succ n ih =>
    have heven : (fun m => if 2 * m = 0 then c else ⟨0, 0⟩) =
        fun m => if m = 0 then c else ⟨0, 0⟩ := by simp
    rw [decimationInTime_succ, heven, ih]
    simp [decimationInTime_zeros, bfly_zero]

/-- Settles O40: the sums double at index 0, and the differences vanish, exactly. -/
theorem forwardOfConstantIsImpulse : Obligations.ForwardOfConstantIsImpulse := by
  intro s cnt x h hs hcnt
  have hlen : (List.replicate s.length.toNat x).length = s.length.toNat := List.length_replicate
  have hconst : ∀ k < s.length.toNat,
      (s.transformed false (List.replicate s.length.toNat x)).mem.readSample k =
        if k = 0 then ⟨s.length.toNat * x.re.toInt, s.length.toNat * x.im.toInt⟩
        else ⟨0, 0⟩ := by
    intro k hk
    rw [h.readSample_transformed hs hlen false hk]
    have hsamples : ∀ i < 2 ^ s.log2n.toNat,
        inputSample (List.replicate s.length.toNat x) i = ⟨x.re.toInt, x.im.toInt⟩ := by
      intro i hi
      rw [inputSample_eq_of_getElem (by rwa [hlen, h.length_eq hs]), List.getElem_replicate]
    refine (decimationInTime_congr hsamples k).trans ?_
    rw [decimationInTime_const false _ _ (h.length_eq hs ▸ hk), h.length_eq hs]
    push_cast
    rfl
  refine ⟨_, transformCommand_of_accepted h hs false hcnt hlen, ?_, fun k hk0 hk => ?_⟩
  · have hpos : 0 < s.length.toNat := h.length_eq hs ▸ Nat.two_pow_pos _
    exact (hconst 0 hpos).trans (if_pos rfl)
  · exact (hconst k hk).trans (if_neg hk0.ne')

/-- Settles O41: the impulse is spread unchanged, and dividing `N c` by `N` rounds nothing. -/
theorem inverseOfImpulseIsConstant : Obligations.InverseOfImpulseIsConstant := by
  intro s cnt x c d h hs hcnt hre him
  have hpos : 0 < s.length.toNat := h.length_eq hs ▸ Nat.two_pow_pos _
  have hlen : (x :: List.replicate (s.length.toNat - 1) ⟨0#32, 0#32⟩).length = s.length.toNat := by
    rw [List.length_cons, List.length_replicate, Nat.sub_add_cancel hpos]
  refine ⟨_, transformCommand_of_accepted h hs true hcnt hlen, fun k hk => ?_⟩
  refine (h.readSample_transformed hs hlen true hk).trans ?_
  have hsamples : ∀ i < 2 ^ s.log2n.toNat,
      inputSample (x :: List.replicate (s.length.toNat - 1) ⟨0#32, 0#32⟩) i =
        if i = 0 then ⟨x.re.toInt, x.im.toInt⟩ else ⟨0, 0⟩ := by
    intro i hi
    rw [inputSample_eq_of_getElem (by rwa [hlen, h.length_eq hs])]
    cases i with
    | zero => rfl
    | succ i => simp
  have hspread := (decimationInTime_congr hsamples k).trans
    (decimationInTime_impulse true _ _ k)
  rw [h.length_eq hs] at hre him
  push_cast at hre him
  rw [transformResult, hspread, hre, him]
  simp only [rhazShr_two_pow_mul, if_true]

end Sys2Proof.Machine
end

section
/-! PROOF. Round trips (45_transform_engine R184). The host reads a forward result back and sends it
through INVERSE: what comes back is the inverse transform of the forward transform, both on exact
integers. Up to length 4 it is `N` times the payload before the division; at length 8 it is off by
less than half the length, which the division rounds away. -/

namespace Sys2Proof.Machine

/-! ## Reading back -/

theorem resultFits_iff {N : Nat} {m : Memory} : resultFits N m = true ↔
    ∀ i < N, fitsS32 (m.readSample i).re = true ∧ fitsS32 (m.readSample i).im = true := by
  simp [resultFits, Memory.readSample]

@[simp] theorem length_readBackPayload (N : Nat) (m : Memory) :
    (readBackPayload N m).length = N := by
  simp [readBackPayload]

/-- The low half of a word that fits `s32` has its value. -/
theorem toInt_setWidth_of_fitsS32 {v : BufWord} (h : fitsS32 v.toInt = true) :
    (v.setWidth 32).toInt = v.toInt := by
  obtain ⟨hlow, hhigh⟩ : -2 ^ 31 ≤ v.toInt ∧ v.toInt < 2 ^ 31 := by simpa [fitsS32] using h
  rw [← BitVec.signExtend_eq_setWidth_of_le v (by decide)]
  exact BitVec.toInt_ofInt_eq_self (by decide) hlow hhigh

theorem inputSample_readBackPayload {N : Nat} {m : Memory} (hfits : resultFits N m = true) {i : Nat}
    (hi : i < N) : inputSample (readBackPayload N m) i = m.readSample i := by
  obtain ⟨hre, him⟩ := resultFits_iff.mp hfits i hi
  rw [inputSample_eq_of_getElem (by rwa [length_readBackPayload])]
  simp only [readBackPayload, List.getElem_map, List.getElem_range]
  rw [toInt_setWidth_of_fitsS32 hre, toInt_setWidth_of_fitsS32 him, Memory.readSample]

/-- The two networks in a row, before the division by the length. -/
def thereAndBack (n : Nat) (x : Nat → Cplx) (k : Nat) : Cplx :=
  decimationInTime true n (decimationInTime false n x) k

section RoundTrip
variable {s t : State} {cnt : BitVec 32} {payload : List Sample} (h : s.Inv)
  (hs : s.constructed = true) (hcnt : cnt.toNat = s.length.toNat)
  (hlen : payload.length = s.length.toNat) (hfwd : exec (.forward cnt payload) s = .next t)
  (hfits : resultFits s.length.toNat t.mem = true)
include h hs hcnt hlen hfwd hfits

/-- INVERSE of a forward result that was read back divides the two networks in a row. -/
theorem State.Inv.roundTrip :
    ∃ u, exec (.inverse cnt (readBackPayload s.length.toNat t.mem)) t = .next u ∧
      ∀ k < s.length.toNat, u.mem.readSample k =
        ⟨rhazShr (thereAndBack s.log2n.toNat (inputSample payload) k).re s.log2n.toNat,
          rhazShr (thereAndBack s.log2n.toNat (inputSample payload) k).im s.log2n.toNat⟩ := by
  have htinv : t.Inv := exec_keeps_inv h hfwd
  cases (transformCommand_of_accepted h hs false hcnt hlen).symm.trans hfwd
  have hback := length_readBackPayload s.length.toNat (s.transformed false payload).mem
  refine ⟨_, transformCommand_of_accepted htinv hs true hcnt hback, fun k hk => ?_⟩
  refine (htinv.readSample_transformed hs hback true hk).trans ?_
  have hsent : ∀ i < 2 ^ s.log2n.toNat,
      inputSample (readBackPayload s.length.toNat (s.transformed false payload).mem) i =
        decimationInTime false s.log2n.toNat (inputSample payload) i := by
    intro i hi
    rw [← h.length_eq hs] at hi
    exact (inputSample_readBackPayload hfits hi).trans (h.readSample_transformed hs hlen false hi)
  have hnet := decimationInTime_congr (inv := true) hsent k
  rw [thereAndBack, ← hnet]
  rfl

end RoundTrip

/-! ## What the division removes -/

/-- The division returns `a` from everything closer to `2^k a` than half a unit. -/
theorem rhazShr_eq_of_near {v a : Int} {k : Nat} (h : 2 * |v - 2 ^ k * a| < 2 ^ k) :
    rhazShr v k = a := by
  obtain ⟨hround, -⟩ := roundsToNearestTiesAway v k
  have hunit : (0 : Int) < 2 ^ k := by positivity
  have htri := abs_add_le (2 ^ k * rhazShr v k - v) (v - 2 ^ k * a)
  rw [sub_add_sub_cancel, ← mul_sub, abs_mul, abs_of_pos hunit] at htri
  have hlt : |rhazShr v k - a| < 1 := by nlinarith
  exact sub_eq_zero.mp (Int.abs_lt_one_iff.mp hlt)

/-- Before the division the round trip of every sample is off by less than half the length. -/
def RoundTripNear (n : Nat) (x : Nat → Cplx) : Prop :=
  ∀ k < 2 ^ n, 2 * |(thereAndBack n x k).re - 2 ^ n * (x k).re| < 2 ^ n ∧
    2 * |(thereAndBack n x k).im - 2 ^ n * (x k).im| < 2 ^ n

theorem State.Inv.roundTrip_exact {s t : State} {cnt : BitVec 32} {payload : List Sample}
    (h : s.Inv) (hs : s.constructed = true) (hcnt : cnt.toNat = s.length.toNat)
    (hlen : payload.length = s.length.toNat) (hfwd : exec (.forward cnt payload) s = .next t)
    (hfits : resultFits s.length.toNat t.mem = true)
    (hnear : RoundTripNear s.log2n.toNat (inputSample payload)) :
    ∃ u, exec (.inverse cnt (readBackPayload s.length.toNat t.mem)) t = .next u ∧
      holdsPayload s.length.toNat u.mem payload := by
  obtain ⟨u, hu, hread⟩ := h.roundTrip hs hcnt hlen hfwd hfits
  refine ⟨u, hu, fun k hk => (hread k hk).trans ?_⟩
  obtain ⟨hre, him⟩ := hnear k (h.length_eq hs ▸ hk)
  rw [rhazShr_eq_of_near hre, rhazShr_eq_of_near him]

theorem roundTripNear_of_eq {n : Nat} {x : Nat → Cplx}
    (h : ∀ k < 2 ^ n, thereAndBack n x k = ⟨2 ^ n * (x k).re, 2 ^ n * (x k).im⟩) :
    RoundTripNear n x := fun k hk => by
  simp [h k hk]

/-! ## Quarter turns -/

/-- `c` times `-i` forward and `i` inverse. -/
def turn (inv : Bool) (c : Cplx) : Cplx := if inv then ⟨-c.im, c.re⟩ else ⟨c.im, -c.re⟩

@[simp] theorem turn_true (c : Cplx) : turn true c = ⟨-c.im, c.re⟩ := rfl

@[simp] theorem turn_false (c : Cplx) : turn false c = ⟨c.im, -c.re⟩ := rfl

/-- Turning the twiddle turns the rounded product, because rounding is odd. -/
theorem cmulQ30_turn (inv : Bool) (b w : Cplx) :
    cmulQ30 b (turn inv w) = turn inv (cmulQ30 b w) := by
  cases inv <;> simp only [turn_true, turn_false, cmulQ30_eq, ← rhazShr_neg] <;> congr 2 <;> ring

theorem tw_add_quarter {q : Nat} (hq : q < 8192) : tw (q + 8192) = turn true (tw q) := by
  rw [tw_of_le hq.le]
  rcases q.eq_zero_or_pos with rfl | hpos
  · rw [zero_add, tw_of_le le_rfl, qrom_last]
    rfl
  · rw [tw_of_lt (by omega), show 16384 - (q + 8192) = 8192 - q by omega, Nat.add_sub_cancel]
    rfl

/-- A quarter of the positions of a pass further on, the twiddle has made a quarter turn. -/
theorem twiddle_add_quarter {n j : Nat} (hn : n + 2 ≤ 15) (hj : j < 2 ^ n) (inv : Bool) :
    twiddle (n + 2) (j + 2 ^ n) inv = turn inv (twiddle (n + 2) j inv) := by
  have hquarter : 2 ^ n * 2 ^ (15 - (n + 2)) = 8192 := by
    rw [← pow_add, show n + (15 - (n + 2)) = 13 by omega]
    rfl
  have hangle : angleIndex (n + 2) (j + 2 ^ n) = angleIndex (n + 2) j + 8192 := by
    rw [angleIndex_eq, angleIndex_eq, add_mul, hquarter]
  have hlt : angleIndex (n + 2) j < 8192 := by
    rw [angleIndex_eq, ← hquarter]
    exact Nat.mul_lt_mul_of_pos_right hj (Nat.two_pow_pos _)
  cases inv with
  | false => rw [twiddle_forward, twiddle_forward, hangle, tw_add_quarter hlt]; simp
  | true => rw [twiddle_inverse, twiddle_inverse, hangle, tw_add_quarter hlt]

/-- The four outputs a quarter of the length apart share one twiddle. -/
theorem decimationInTime_quarters (inv : Bool) {n j : Nat} (hn : n + 2 ≤ 15) (hj : j < 2 ^ n)
    (x : Nat → Cplx) :
    let X := decimationInTime inv (n + 2) x
    let e := decimationInTime inv (n + 1) fun m => x (2 * m)
    let o := decimationInTime inv (n + 1) fun m => x (2 * m + 1)
    let w := twiddle (n + 2) j inv
    X j = cadd (e j) (cmulQ30 (o j) w) ∧
    X (j + 2 ^ n) = cadd (e (j + 2 ^ n)) (turn inv (cmulQ30 (o (j + 2 ^ n)) w)) ∧
    X (j + 2 * 2 ^ n) = csub (e j) (cmulQ30 (o j) w) ∧
    X (j + 3 * 2 ^ n) = csub (e (j + 2 ^ n)) (turn inv (cmulQ30 (o (j + 2 ^ n)) w)) := by
  have hhalf : 2 ^ (n + 1) = 2 * 2 ^ n := pow_succ' 2 n
  have hlow : ∀ i < 2 ^ (n + 1), i % 2 ^ (n + 1) = i := fun i hi => Nat.mod_eq_of_lt hi
  have hhigh : ∀ i < 2 ^ (n + 1), (i + 2 ^ (n + 1)) % 2 ^ (n + 1) = i := fun i hi => by
    rw [Nat.add_mod_right, hlow i hi]
  have hlast : j + 3 * 2 ^ n = j + 2 ^ n + 2 ^ (n + 1) := by omega
  have hj1 : j < 2 ^ (n + 1) := by omega
  have hj2 : j + 2 ^ n < 2 ^ (n + 1) := by omega
  simp only [← cmulQ30_turn, ← twiddle_add_quarter hn hj]
  rw [hlast, ← hhalf]
  refine ⟨?_, ?_, ?_, ?_⟩ <;> rw [decimationInTime_succ]
  · rw [hlow j hj1, if_pos hj1, bfly_eq]
  · rw [hlow _ hj2, if_pos hj2, bfly_eq]
  · rw [hhigh j hj1, if_neg (by omega), bfly_eq]
  · rw [hhigh _ hj2, if_neg (by omega), bfly_eq]

/-! ## Sums and differences come back doubled -/

def double (c : Cplx) : Cplx := ⟨2 * c.re, 2 * c.im⟩

theorem cadd_cadd_csub (a t : Cplx) : cadd (cadd a t) (csub a t) = double a := by
  simp only [cadd, csub, double]
  congr 1 <;> ring

theorem csub_cadd_csub (a t : Cplx) : csub (cadd a t) (csub a t) = double t := by
  simp only [cadd, csub, double]
  congr 1 <;> ring

theorem cadd_double (a b : Cplx) : cadd (double a) (double b) = double (cadd a b) := by
  simp only [double, cadd, mul_add]

theorem csub_double (a b : Cplx) : csub (double a) (double b) = double (csub a b) := by
  simp only [double, csub, mul_sub]

/-- The inverse's quarter turn undoes the forward's. -/
theorem turn_double_turn (c : Cplx) : turn true (double (turn false c)) = double c := by
  simp [double]

/-! ## Lengths 2 and 4 -/

theorem thereAndBack_one (x : Nat → Cplx) {k : Nat} (hk : k < 2) :
    thereAndBack 1 x k = double (x k) := by
  simp only [thereAndBack, decimationInTime_one, if_true, one_ne_zero, if_false, cadd_cadd_csub,
    csub_cadd_csub]
  interval_cases k <;> rfl

theorem decimationInTime_two_values (inv : Bool) (x : Nat → Cplx) :
    decimationInTime inv 2 x 0 = cadd (cadd (x 0) (x 2)) (cadd (x 1) (x 3)) ∧
    decimationInTime inv 2 x 1 = cadd (csub (x 0) (x 2)) (turn inv (csub (x 1) (x 3))) ∧
    decimationInTime inv 2 x 2 = csub (cadd (x 0) (x 2)) (cadd (x 1) (x 3)) ∧
    decimationInTime inv 2 x 3 = csub (csub (x 0) (x 2)) (turn inv (csub (x 1) (x 3))) := by
  have hquarters := decimationInTime_quarters inv (n := 0) (j := 0) (by decide) (by decide) x
  simpa [twiddle_zero, cmulQ30_one, decimationInTime_one, -Int.reducePow] using hquarters

/-- The inverse of length 4 undoes the forward transform, four times over. -/
theorem thereAndBack_two (x : Nat → Cplx) {k : Nat} (hk : k < 4) :
    thereAndBack 2 x k = double (double (x k)) := by
  obtain ⟨f0, f1, f2, f3⟩ := decimationInTime_two_values false x
  obtain ⟨b0, b1, b2, b3⟩ := decimationInTime_two_values true (decimationInTime false 2 x)
  simp only [f0, f1, f2, f3, cadd_cadd_csub, csub_cadd_csub, turn_double_turn, cadd_double,
    csub_double] at b0 b1 b2 b3
  interval_cases k
  · exact b0
  · exact b1
  · exact b2
  · exact b3

/-- Settles O42: at these lengths nothing is rounded before the division, and the division is
exact. -/
theorem roundTripExactAtLengthsTwoAndFour : Obligations.RoundTripExactAtLengthsTwoAndFour := by
  intro s t cnt payload h hs hshort hcnt hlen hfwd hfits
  refine h.roundTrip_exact hs hcnt hlen hfwd hfits (roundTripNear_of_eq ?_)
  rcases hshort with htwo | hfour
  · rw [h.log2n_eq hs (k := 1) htwo]
    exact fun k hk => (thereAndBack_one _ hk).trans (by simp [double])
  · rw [h.log2n_eq hs (k := 2) hfour]
    exact fun k hk => (thereAndBack_two _ hk).trans (by simp [double, ← mul_assoc])

end Sys2Proof.Machine
end

section
/-! PROOF. The round trip at length 8 (45_transform_engine R184 item 2). Only the odd outputs round.
Each is an exact part plus or minus one product by the inverse's eighth turn, of the sum or
difference of two products by the forward's; the roundings together move it by less than 4. -/

namespace Sys2Proof.Machine

/-- Both parts differ by less than 4, half the length. -/
def Near (c d : Cplx) : Prop := |c.re - d.re| < 4 ∧ |c.im - d.im| < 4

theorem Near.refl (c : Cplx) : Near c c := by
  simp [Near]

/-- A sum of a doubled term and one near a doubled term. -/
theorem Near.of_cadd {y a b c d : Cplx} (hb : Near b (double d)) (hy : y = cadd a b)
    (ha : a = double c) : Near y (double (cadd c d)) := by
  subst hy ha
  simpa [Near, double, cadd, mul_add] using hb

theorem Near.of_csub {y a b c d : Cplx} (hb : Near b (double d)) (hy : y = csub a b)
    (ha : a = double c) : Near y (double (csub c d)) := by
  subst hy ha
  simpa [Near, double, csub, mul_sub, abs_sub_comm] using hb

theorem Near.turn_double {b d : Cplx} (hb : Near b (double d)) :
    Near (turn true b) (double (turn true d)) := by
  obtain ⟨hre, him⟩ := hb
  refine ⟨?_, hre⟩
  rwa [turn_true, double, turn_true, mul_neg, neg_sub_neg, abs_sub_comm]

/-! ## The two eighth turns -/

/-- `t` is the product of `u` by the ROM's `cos 45°`, rounded to within half a unit. -/
def EighthOf (u t : Int) : Prop := |2 ^ 30 * t - 759250125 * u| ≤ 2 ^ 29

theorem eighthOf_rhazShr {u v : Int} (hv : v = 759250125 * u) : EighthOf u (rhazShr v 30) := by
  obtain ⟨hround, -⟩ := roundsToNearestTiesAway v 30
  rw [hv] at hround ⊢
  rw [EighthOf]
  omega

theorem EighthOf.neg {u t : Int} (h : EighthOf u t) : EighthOf (-u) (-t) := by
  rw [EighthOf, mul_neg, mul_neg, neg_sub_neg, abs_sub_comm]
  exact h

/-- Four roundings before the sum and one after it; twice the square of the ROM's word is so close
to `2^60` that it counts for little at this size. -/
theorem near_of_eighthOf {u₁ u₂ u₃ u₄ t₁ t₂ t₃ t₄ z v : Int} (h₁ : EighthOf u₁ t₁)
    (h₂ : EighthOf u₂ t₂) (h₃ : EighthOf u₃ t₃) (h₄ : EighthOf u₄ t₄)
    (hz : u₁ + u₂ + u₃ + u₄ = 2 * z) (hsmall : |z| ≤ 2 ^ 34)
    (hv : EighthOf (2 * (t₁ + t₂ + t₃ + t₄)) v) : |v - 2 * z| < 4 := by
  simp only [EighthOf, abs_le] at h₁ h₂ h₃ h₄ hv hsmall
  have hsum : -2 ^ 31 ≤ 2 ^ 30 * (t₁ + t₂ + t₃ + t₄) - 759250125 * (2 * z) ∧
      2 ^ 30 * (t₁ + t₂ + t₃ + t₄) - 759250125 * (2 * z) ≤ 2 ^ 31 := by
    rw [← hz]
    constructor <;> linarith
  rw [abs_lt]
  constructor <;> linarith

theorem twiddle_three_one_false : twiddle 3 1 false = ⟨759250125, -759250125⟩ := by decide

theorem twiddle_three_one_true : twiddle 3 1 true = ⟨759250125, 759250125⟩ := by decide

theorem eighthOf_cmulQ30_false (b : Cplx) :
    EighthOf (b.re + b.im) (cmulQ30 b (twiddle 3 1 false)).re ∧
      EighthOf (b.im - b.re) (cmulQ30 b (twiddle 3 1 false)).im := by
  rw [twiddle_three_one_false]
  exact ⟨eighthOf_rhazShr (by ring), eighthOf_rhazShr (by ring)⟩

theorem eighthOf_cmulQ30_true (b : Cplx) :
    EighthOf (b.re - b.im) (cmulQ30 b (twiddle 3 1 true)).re ∧
      EighthOf (b.re + b.im) (cmulQ30 b (twiddle 3 1 true)).im := by
  rw [twiddle_three_one_true]
  exact ⟨eighthOf_rhazShr (by ring), eighthOf_rhazShr (by ring)⟩

/-- A forward and an inverse eighth turn of `b + d`, with a rounding for each product. -/
theorem near_eighth_turns {b d : Cplx} (hb : b.Within (2 ^ 33)) (hd : d.Within (2 ^ 33)) :
    Near
      (cmulQ30 (double (cadd (cmulQ30 b (twiddle 3 1 false)) (cmulQ30 d (twiddle 3 1 false))))
        (twiddle 3 1 true))
      (double (cadd b d)) := by
  obtain ⟨hbre, hbim⟩ := eighthOf_cmulQ30_false b
  obtain ⟨hdre, hdim⟩ := eighthOf_cmulQ30_false d
  generalize cmulQ30 b (twiddle 3 1 false) = p at *
  generalize cmulQ30 d (twiddle 3 1 false) = q at *
  obtain ⟨hre, him⟩ := eighthOf_cmulQ30_true (double (cadd p q))
  have hsum : ∀ {x y : Int}, |x| ≤ 2 ^ 33 → |y| ≤ 2 ^ 33 → |x + y| ≤ 2 ^ 34 := fun hx hy =>
    (abs_add_le _ _).trans (by linarith)
  constructor
  · refine near_of_eighthOf hbre hdre hbim.neg hdim.neg (by simp only [cadd]; ring)
      (hsum hb.1 hd.1) ?_
    convert hre using 1
    simp only [double, cadd]
    ring
  · refine near_of_eighthOf hbre hdre hbim hdim (by simp only [cadd]; ring) (hsum hb.2 hd.2) ?_
    convert him using 1
    simp only [double, cadd]
    ring

/-- The same for `b - d`. -/
theorem near_eighth_turns_sub {b d : Cplx} (hb : b.Within (2 ^ 33)) (hd : d.Within (2 ^ 33)) :
    Near
      (cmulQ30 (double (csub (cmulQ30 b (twiddle 3 1 false)) (cmulQ30 d (twiddle 3 1 false))))
        (twiddle 3 1 true))
      (double (csub b d)) := by
  have hneg : (⟨-d.re, -d.im⟩ : Cplx).Within (2 ^ 33) := by simpa [Cplx.Within] using hd
  simpa only [cmulQ30_neg, cadd, csub, ← sub_eq_add_neg] using near_eighth_turns hb hneg

/-! ## The eight outputs -/

theorem within_cadd {c d : Cplx} {A B : Int} (hc : c.Within A) (hd : d.Within B) :
    (cadd c d).Within (A + B) :=
  ⟨(abs_add_le _ _).trans (add_le_add hc.1 hd.1), (abs_add_le _ _).trans (add_le_add hc.2 hd.2)⟩

theorem within_csub {c d : Cplx} {A B : Int} (hc : c.Within A) (hd : d.Within B) :
    (csub c d).Within (A + B) :=
  ⟨(abs_sub _ _).trans (add_le_add hc.1 hd.1), (abs_sub _ _).trans (add_le_add hc.2 hd.2)⟩

theorem within_turn {c : Cplx} {A : Int} (hc : c.Within A) (inv : Bool) :
    (turn inv c).Within A := by
  obtain ⟨hre, him⟩ := hc
  cases inv <;> simp [Cplx.Within, hre, him]

/-- Each output of length 4 is a sum of the four samples, turned. -/
theorem within_decimationInTime_two (inv : Bool) {x : Nat → Cplx} {A : Int}
    (hx : ∀ i, (x i).Within A) {k : Nat} (hk : k < 4) :
    (decimationInTime inv 2 x k).Within (4 * A) := by
  obtain ⟨v0, v1, v2, v3⟩ := decimationInTime_two_values inv x
  have hsum := fun i j => within_cadd (hx i) (hx j)
  have hdiff := fun i j => within_csub (hx i) (hx j)
  rw [show 4 * A = A + A + (A + A) by ring]
  interval_cases k
  · exact v0 ▸ within_cadd (hsum 0 2) (hsum 1 3)
  · exact v1 ▸ within_cadd (hdiff 0 2) (within_turn (hdiff 1 3) inv)
  · exact v2 ▸ within_csub (hsum 0 2) (hsum 1 3)
  · exact v3 ▸ within_csub (hdiff 0 2) (within_turn (hdiff 1 3) inv)

/-- The forward transforms of the samples of one parity. -/
def forwardHalf (x : Nat → Cplx) (r : Nat) : Nat → Cplx :=
  decimationInTime false 2 fun m => x (2 * m + r)

/-- The inverse transforms of the forward outputs of one parity. -/
def inverseHalf (x : Nat → Cplx) (r : Nat) : Nat → Cplx :=
  decimationInTime true 2 fun m => decimationInTime false 3 x (2 * m + r)

/-- The last pass of the inverse, on its two halves. -/
theorem thereAndBack_three_values (x : Nat → Cplx) {j : Nat} (hj : j < 2) :
    let w := twiddle 3 j true
    thereAndBack 3 x j = cadd (inverseHalf x 0 j) (cmulQ30 (inverseHalf x 1 j) w) ∧
    thereAndBack 3 x (j + 2) =
      cadd (inverseHalf x 0 (j + 2)) (turn true (cmulQ30 (inverseHalf x 1 (j + 2)) w)) ∧
    thereAndBack 3 x (j + 4) = csub (inverseHalf x 0 j) (cmulQ30 (inverseHalf x 1 j) w) ∧
    thereAndBack 3 x (j + 6) =
      csub (inverseHalf x 0 (j + 2)) (turn true (cmulQ30 (inverseHalf x 1 (j + 2)) w)) :=
  decimationInTime_quarters true (n := 1) (by decide) hj (decimationInTime false 3 x)

/-- In the halves of the inverse the forward's last pass is undone: its exact parts come back
doubled, and so do its rounded products. -/
theorem inverseHalf_values (x : Nat → Cplx) {j : Nat} (hj : j < 2) :
    let w := twiddle 3 j false
    inverseHalf x j 0 = double (cadd (forwardHalf x 0 j) (forwardHalf x 0 (j + 2))) ∧
    inverseHalf x j 1 =
      double (cadd (cmulQ30 (forwardHalf x 1 j) w) (cmulQ30 (forwardHalf x 1 (j + 2)) w)) ∧
    inverseHalf x j 2 = double (csub (forwardHalf x 0 j) (forwardHalf x 0 (j + 2))) ∧
    inverseHalf x j 3 =
      double (csub (cmulQ30 (forwardHalf x 1 j) w) (cmulQ30 (forwardHalf x 1 (j + 2)) w)) := by
  intro w
  obtain ⟨q0, q1, q2, q3⟩ :=
    decimationInTime_quarters false (n := 1) (by decide) (show j < 2 ^ 1 from hj) x
  obtain ⟨v0, v1, v2, v3⟩ :=
    decimationInTime_two_values true fun m => decimationInTime false 3 x (2 * m + j)
  have x0 : decimationInTime false 3 x (2 * 0 + j) =
      cadd (forwardHalf x 0 j) (cmulQ30 (forwardHalf x 1 j) w) := by
    rw [add_comm]; exact q0
  have x1 : decimationInTime false 3 x (2 * 1 + j) =
      cadd (forwardHalf x 0 (j + 2)) (turn false (cmulQ30 (forwardHalf x 1 (j + 2)) w)) := by
    rw [add_comm]; exact q1
  have x2 : decimationInTime false 3 x (2 * 2 + j) =
      csub (forwardHalf x 0 j) (cmulQ30 (forwardHalf x 1 j) w) := by
    rw [add_comm]; exact q2
  have x3 : decimationInTime false 3 x (2 * 3 + j) =
      csub (forwardHalf x 0 (j + 2)) (turn false (cmulQ30 (forwardHalf x 1 (j + 2)) w)) := by
    rw [add_comm]; exact q3
  simp only [x0, x1, x2, x3, cadd_cadd_csub, csub_cadd_csub, turn_double_turn, cadd_double,
    csub_double] at v0 v1 v2 v3
  exact ⟨v0, v1, v2, v3⟩

theorem thereAndBack_two_values (x : Nat → Cplx) (r : Nat) :
    let f := forwardHalf x r
    let y := thereAndBack 2 fun m => x (2 * m + r)
    y 0 = cadd (cadd (f 0) (f 2)) (cadd (f 1) (f 3)) ∧
    y 1 = cadd (csub (f 0) (f 2)) (turn true (csub (f 1) (f 3))) ∧
    y 2 = csub (cadd (f 0) (f 2)) (cadd (f 1) (f 3)) ∧
    y 3 = csub (csub (f 0) (f 2)) (turn true (csub (f 1) (f 3))) :=
  decimationInTime_two_values true (forwardHalf x r)

/-- The even outputs are near the round trip of the even samples, doubled: nothing is rounded. -/
theorem near_thereAndBack_three_even (x : Nat → Cplx) {i : Nat} (hi : i < 4) :
    Near (thereAndBack 3 x (2 * i)) (double (thereAndBack 2 (fun m => x (2 * m + 0)) i)) := by
  obtain ⟨v0, v1, v2, v3⟩ := thereAndBack_two_values x 0
  obtain ⟨e0, -, e2, -⟩ := inverseHalf_values x (j := 0) (by decide)
  obtain ⟨o0, -, o2, -⟩ := inverseHalf_values x (j := 1) (by decide)
  obtain ⟨y0, y2, y4, y6⟩ := thereAndBack_three_values x (j := 0) (by decide)
  rw [twiddle_zero, cmulQ30_one] at y0 y2 y4 y6
  have hsum : Near (inverseHalf x 1 0) (double (cadd (forwardHalf x 0 1) (forwardHalf x 0 3))) :=
    o0 ▸ Near.refl _
  have hdiff : Near (inverseHalf x 1 2) (double (csub (forwardHalf x 0 1) (forwardHalf x 0 3))) :=
    o2 ▸ Near.refl _
  interval_cases i
  · exact v0 ▸ hsum.of_cadd y0 e0
  · exact v1 ▸ hdiff.turn_double.of_cadd y2 e2
  · exact v2 ▸ hsum.of_csub y4 e0
  · exact v3 ▸ hdiff.turn_double.of_csub y6 e2

/-- The odd outputs are near the round trip of the odd samples, doubled. -/
theorem near_thereAndBack_three_odd {x : Nat → Cplx} (hx : ∀ i, (x i).Within (2 ^ 31)) {i : Nat}
    (hi : i < 4) :
    Near (thereAndBack 3 x (2 * i + 1)) (double (thereAndBack 2 (fun m => x (2 * m + 1)) i)) := by
  have hwithin : ∀ k < 4, (forwardHalf x 1 k).Within (2 ^ 33) := fun k hk =>
    within_decimationInTime_two false (fun m => hx (2 * m + 1)) hk
  obtain ⟨v0, v1, v2, v3⟩ := thereAndBack_two_values x 1
  obtain ⟨-, e1, -, e3⟩ := inverseHalf_values x (j := 0) (by decide)
  obtain ⟨-, o1, -, o3⟩ := inverseHalf_values x (j := 1) (by decide)
  obtain ⟨y1, y3, y5, y7⟩ := thereAndBack_three_values x (j := 1) (by decide)
  rw [twiddle_zero, cmulQ30_one, cmulQ30_one] at e1 e3
  have hsum : Near (cmulQ30 (inverseHalf x 1 1) (twiddle 3 1 true))
      (double (cadd (forwardHalf x 1 1) (forwardHalf x 1 3))) :=
    o1 ▸ near_eighth_turns (hwithin 1 (by decide)) (hwithin 3 (by decide))
  have hdiff : Near (cmulQ30 (inverseHalf x 1 3) (twiddle 3 1 true))
      (double (csub (forwardHalf x 1 1) (forwardHalf x 1 3))) :=
    o3 ▸ near_eighth_turns_sub (hwithin 1 (by decide)) (hwithin 3 (by decide))
  interval_cases i
  · exact v0 ▸ hsum.of_cadd y1 e1
  · exact v1 ▸ hdiff.turn_double.of_cadd y3 e3
  · exact v2 ▸ hsum.of_csub y5 e1
  · exact v3 ▸ hdiff.turn_double.of_csub y7 e3

/-- The round trip at length 8 is off by less than 4 before the division. -/
theorem roundTripNear_three {x : Nat → Cplx} (hx : ∀ i, (x i).Within (2 ^ 31)) :
    RoundTripNear 3 x := by
  intro k hk
  have hnear : Near (thereAndBack 3 x k) (double (double (double (x k)))) := by
    obtain ⟨i, rfl | rfl⟩ := Nat.even_or_odd' k
    · rw [← thereAndBack_two (fun m => x (2 * m)) (k := i) (by omega)]
      exact near_thereAndBack_three_even x (by omega)
    · rw [← thereAndBack_two (fun m => x (2 * m + 1)) (k := i) (by omega)]
      exact near_thereAndBack_three_odd hx (by omega)
  have hcube : ∀ v : Int, 2 * (2 * (2 * v)) = 2 ^ 3 * v := fun v => by ring
  obtain ⟨hre, him⟩ := hnear
  simp only [double, hcube] at hre him
  exact ⟨by linarith, by linarith⟩

/-- Settles O43: the division by 8 removes an error below 4. -/
theorem roundTripExactAtLengthEight : Obligations.RoundTripExactAtLengthEight := by
  intro s t cnt payload h hs hlength hcnt hlen hfwd hfits
  rw [← hlength] at hcnt hlen hfits ⊢
  refine h.roundTrip_exact hs hcnt hlen hfwd hfits ?_
  rw [h.log2n_eq hs (k := 3) hlength]
  exact roundTripNear_three (inputSample_within payload)

/-! ## The source's inputs -/

/-- Settles O44: a constant gives an impulse that fits `s32`, and length 8 comes back exactly. -/
theorem sourceRoundTripsAtLengthEight : Obligations.SourceRoundTripsAtLengthEight := by
  intro s c d h hs hlength x
  have hcnt : (8#32 : BitVec 32).toNat = s.length.toNat := hlength.symm
  obtain ⟨t, hfwd, hzero, hrest⟩ := forwardOfConstantIsImpulse s 8#32 x h hs hcnt
  rw [hlength] at hfwd hzero hrest
  have hfirst : t.mem.readSample 0 = ⟨if c then 8 else 0, if d then 8 else 0⟩ := by
    rw [hzero]
    cases c <;> cases d <;> rfl
  have hfits : resultFits 8 t.mem = true := by
    refine resultFits_iff.mpr fun i hi => ?_
    rcases i.eq_zero_or_pos with rfl | hpos
    · rw [hfirst]
      cases c <;> cases d <;> decide
    · rw [hrest i hpos hi]
      decide
  obtain ⟨u, hinv, hholds⟩ :=
    roundTripExactAtLengthEight s t 8#32 (List.replicate 8 x) h hs hlength rfl rfl hfwd hfits
  exact ⟨t, u, hfwd, hfirst, hrest, hinv, hholds⟩

end Sys2Proof.Machine
end

section
/-! PROOF. The round trip at length 16 that fails (45_transform_engine R184 item 3): T16 of
95_test_vectors, in the unit that a CONSTRUCT of length 16 leaves after power-up. -/

namespace Sys2Proof.Machine

/-- T16's payload. -/
def failingPayload : List Sample :=
  asmSamples [-1, -1, -1, 0, -1, -1, -1, 1, -1, 1, 0, 1, 0, 1, -1, -1] (List.replicate 16 0)

theorem failingPayload_small : ∀ i < 16,
    (inputSample failingPayload i).re ∈ [-1, 0, 1] ∧ (inputSample failingPayload i).im = 0 := by
  decide

theorem failingPayload_fits : ∀ i < 16,
    fitsS32 (decimationInTime false 4 (inputSample failingPayload) i).re = true ∧
      fitsS32 (decimationInTime false 4 (inputSample failingPayload) i).im = true := by
  decide +kernel

/-- Before the division index 3 holds 8, half the length, where the exact value is 0. -/
theorem thereAndBack_failingPayload :
    (thereAndBack 4 (inputSample failingPayload) 3).re = 8 := by
  decide +kernel

/-- The unit of length 16. -/
def unitSixteen : State := construct 16#32 State.reset

theorem unitSixteen_inv : unitSixteen.Inv := construct_inv reset_mem_wf (by decide)

theorem unitSixteen_length : unitSixteen.length.toNat = 16 :=
  (construct_length_log2n (L := 16#32) (k := 4) (by decide) rfl State.reset).1

theorem unitSixteen_log2n : unitSixteen.log2n.toNat = 4 :=
  (construct_length_log2n (L := 16#32) (k := 4) (by decide) rfl State.reset).2

theorem length_failingPayload : failingPayload.length = unitSixteen.length.toNat :=
  unitSixteen_length.symm

theorem resultFits_failingPayload :
    resultFits unitSixteen.length.toNat (unitSixteen.transformed false failingPayload).mem = true :=
  resultFits_iff.mpr fun i hi => by
    rw [unitSixteen_inv.readSample_transformed rfl length_failingPayload false hi,
      unitSixteen_log2n]
    exact failingPayload_fits i (unitSixteen_length ▸ hi)

/-- Settles O45: 8/16 is a tie, which rounds away from zero to 1. -/
theorem roundTripFailsAtLengthSixteen : Obligations.RoundTripFailsAtLengthSixteen := by
  have hcnt : (16#32).toNat = unitSixteen.length.toNat := unitSixteen_length.symm
  have hlen := length_failingPayload
  have hfwd := transformCommand_of_accepted unitSixteen_inv rfl false hcnt hlen
  obtain ⟨u, hinv, hread⟩ := unitSixteen_inv.roundTrip rfl hcnt hlen hfwd resultFits_failingPayload
  have hsample := hread 3 (by rw [unitSixteen_length]; decide)
  rw [unitSixteen_log2n, thereAndBack_failingPayload] at hsample
  exact ⟨unitSixteen, _, u, failingPayload, unitSixteen_inv, rfl, unitSixteen_length, rfl,
    failingPayload_small, hfwd, unitSixteen_length ▸ resultFits_failingPayload,
    unitSixteen_length ▸ hinv, by decide, congrArg Cplx.re hsample⟩

end Sys2Proof.Machine
end

section
/-! PROOF. A single result read (46_result_accessor R201, R202): its three answers, the lifecycle check
before the range check. -/

namespace Sys2Proof.Machine

theorem readResult_of_length_le {s : State} (hs : s.constructed = true) (word : BufWord)
    {index : BitVec 32} (hle : s.length.toNat ≤ index.toNat) :
    readResult word index s = .next (s.answer .errIndex 0#64) := by
  simp [readResult, hs, hle, reject_eq]

/-- Settles O46: RESULT_RE and RESULT_IM are one read of two words, and below the length the invariant
gives the word. -/
theorem resultReadsReturnBufferWords : Obligations.ResultReadsReturnBufferWords := by
  intro s index
  refine ⟨⟨decode_encode (.resultRe index), decode_encode (.resultIm index)⟩,
    fun hs => ?noInstance, fun hs hle => ?outOfRange, fun h hs hlt => ?inRange⟩
  case noInstance =>
    exact ⟨readResult_of_not_constructed hs _ index, readResult_of_not_constructed hs _ index⟩
  case outOfRange =>
    exact ⟨readResult_of_length_le hs _ hle, readResult_of_length_le hs _ hle⟩
  case inRange =>
    have hmax : index.toNat < Config.nMax := hlt.trans_le (h.length_le hs)
    exact ⟨readResult_of_lt hs _ hlt hmax, readResult_of_lt hs _ hlt hmax⟩

end Sys2Proof.Machine
end

section
/-! PROOF. Reserved words (60_exceptions R227): the rule's four cases are the decoder's ways to
reserve a word, and those are the words without a row. -/

namespace Sys2Proof

/-- The four cases of 60_exceptions R227. -/
def CommandWord.IsReserved (cw : CommandWord) : Prop :=
  cw.op.toNat = 0x00 ∨ 0x09 ≤ cw.op.toNat ∨ (cw.op.toNat = 0x02 ∧ cw.arg ≠ 0#32) ∨
    (cw.op.toNat = 0x07 ∧ cw.arg.extractLsb' 16 16 ≠ 0#16)

theorem isReserved_iff_decode {r : Request} :
    r.cw.IsReserved ↔ ∃ why, decode r = .reserved why := by
  have hd := decodesTo_decode r
  generalize decode r = d at hd
  cases hd with
  | construct hop | forward hop | inverse hop | resultRe hop | resultIm hop | isqrt hop =>
    simp [CommandWord.IsReserved, hop]
  | destroy hop harg | ispow2 hop harg | destroyBits hop harg | ispow2Bits hop harg =>
    simp [CommandWord.IsReserved, hop, harg]
  | opcode hop => simpa [CommandWord.IsReserved, or_assoc] using hop.imp_right Or.inl

/-- A word that is not reserved decodes to a command, whose row covers it. -/
theorem isReserved_iff_no_row {r : Request} :
    r.cw.IsReserved ↔ ∀ row ∈ opcodeTable, row.covers r.cw = false := by
  rw [isReserved_iff_decode]
  simp only [← Bool.not_eq_true]
  refine ⟨fun ⟨_, hd⟩ => not_covers_of_reserved hd, fun hrows => ?_⟩
  cases hd : decode r with
  | reserved why => exact ⟨why, rfl⟩
  | command i =>
    have hone := coveringRows_of_command hd
    rw [List.filter_eq_nil_iff.mpr hrows] at hone
    cases hone

/-- Only the opcodes 3 and 4 announce a payload, and neither is ever reserved. -/
theorem payloadBeats_of_isReserved {cw : CommandWord} (h : cw.IsReserved) :
    payloadBeats cw = 0 := by
  refine payloadBeats_of_no_payload ?_
  rintro (hop | hop) <;> simp [CommandWord.IsReserved, hop] at h

end Sys2Proof
end

section
/-! PROOF. Which code a command answers (60_exceptions R221 to R227): that of the first failing
check. -/

namespace Sys2Proof.Machine

theorem legalLength_eq_validLength (L : BitVec 32) : legalLength L.toNat = validLength L := by
  rw [Bool.eq_iff_iff, validLength_iff]
  simp only [legalLength, List.any_eq_true, List.mem_range'_1, beq_iff_eq, Nat.lt_succ_iff,
    and_assoc, Nat.reduceAdd]

/-! ## The first failing check of 60_exceptions R226 -/

theorem firstFailure_ne_errOp (s : State) (i : Instr) : firstFailure s i ≠ .errOp := by
  cases i with
  | destroy | ispow2 x | isqrt x => simp [firstFailure]
  | construct L | forward cnt payload | inverse cnt payload | resultRe index | resultIm index =>
    simp only [firstFailure]
    split_ifs <;> simp

@[simp] theorem firstFailure_accept (s : State) (i : Instr) :
    firstFailure s.accept i = firstFailure s i := by
  cases i <;> rfl

theorem firstFailure_transformInstr (s : State) (inv : Bool) (cnt : BitVec 32)
    (payload : List Sample) : firstFailure s (transformInstr inv cnt payload) =
      if !s.constructed then .errState
      else if cnt.toNat = s.length.toNat then .ok else .errLen := by
  cases inv <;> rfl

theorem wellFormed_transformInstr (inv : Bool) (cnt : BitVec 32) (payload : List Sample) :
    (transformInstr inv cnt payload).wellFormed = (payload.length == cnt.toNat) := by
  cases inv <;> rfl

/-! ## The code a command answers -/

/-- `t` answers the code of the first failing check of `i` in `s`; only a payload of another length
than announced, which cannot travel (log 2), can be `ERR_LEN` instead. -/
def AnswersFirstFailure (i : Instr) (s t : State) : Prop :=
  ∃ x, t.response = some x ∧
    (x.status = firstFailure s i ∨ x.status = .errLen ∧ i.wellFormed = false)

theorem answersFirstFailure_of_eq {i : Instr} {s u : State} {code : Status} (data : BitVec 64)
    (h : code = firstFailure s i) : AnswersFirstFailure i s (u.answer code data) :=
  ⟨_, rfl, .inl h⟩

theorem answersFirstFailure_of_transformCommand {inv : Bool} {cnt : BitVec 32}
    {payload : List Sample} {s t : State} (h : transformCommand inv cnt payload s = .next t) :
    AnswersFirstFailure (transformInstr inv cnt payload) s t := by
  rcases transformCommand_cases inv cnt payload s with
    ⟨hs, he⟩ | ⟨hs, hbad, he⟩ | ⟨hs, hcnt, -, -, he⟩ | ⟨-, -, -, -, he⟩ <;>
    cases he.symm.trans h
  · exact answersFirstFailure_of_eq _ (by simp [firstFailure_transformInstr, hs])
  · by_cases hcnt : cnt.toNat = s.length.toNat
    · have hlen : payload.length ≠ cnt.toNat := hcnt ▸ hbad.resolve_left (not_not.mpr hcnt)
      exact ⟨_, rfl, .inr ⟨rfl, by simp [wellFormed_transformInstr, hlen]⟩⟩
    · exact answersFirstFailure_of_eq _ (by simp [firstFailure_transformInstr, hs, hcnt])
  · exact answersFirstFailure_of_eq _ (by simp [firstFailure_transformInstr, hs, hcnt])

/-- The two reads share their checks. -/
theorem answersFirstFailure_of_readResult {i : Instr} {word : BufWord} {index : BitVec 32}
    {s t : State} (h : readResult word index s = .next t)
    (hcode : firstFailure s i =
      if !s.constructed then .errState
      else if index.toNat < s.length.toNat then .ok else .errIndex) :
    AnswersFirstFailure i s t := by
  rcases readResult_cases word index s with
    ⟨hs, he⟩ | ⟨hs, hle, he⟩ | ⟨hs, hlt, -, he⟩ | ⟨-, -, -, he⟩ <;> cases he.symm.trans h
  · exact answersFirstFailure_of_eq _ (by simp [hcode, hs])
  · exact answersFirstFailure_of_eq _ (by simp [hcode, hs, hle.not_gt])
  · exact answersFirstFailure_of_eq _ (by simp [hcode, hs, hlt])

theorem answersFirstFailure_of_exec {i : Instr} {s t : State} (h : exec i s = .next t) :
    AnswersFirstFailure i s t := by
  cases i with
  | construct L =>
    rcases execConstruct_cases L s with ⟨hs, he⟩ | ⟨hs, hL, he⟩ | ⟨hs, hL, he⟩ <;>
      cases he.symm.trans h
    · exact answersFirstFailure_of_eq _ (by simp [firstFailure, hs])
    · exact answersFirstFailure_of_eq _ (by simp [firstFailure, hs, legalLength_eq_validLength, hL])
    · exact answersFirstFailure_of_eq _ (by simp [firstFailure, hs, legalLength_eq_validLength, hL])
  | destroy =>
    cases h
    exact answersFirstFailure_of_eq _ rfl
  | forward cnt payload => exact answersFirstFailure_of_transformCommand (inv := false) h
  | inverse cnt payload => exact answersFirstFailure_of_transformCommand (inv := true) h
  | resultRe index => exact answersFirstFailure_of_readResult h rfl
  | resultIm index => exact answersFirstFailure_of_readResult h rfl
  | ispow2 x =>
    cases h
    exact answersFirstFailure_of_eq _ rfl
  | isqrt x =>
    cases h
    exact answersFirstFailure_of_eq _ rfl

/-- No command that decodes answers `ERR_OP` (60_exceptions R227). -/
theorem exec_status_ne_errOp {i : Instr} {s t : State} {x : Response} (h : exec i s = .next t)
    (hx : t.response = some x) : x.status ≠ .errOp := by
  obtain ⟨y, hy, hcode⟩ := answersFirstFailure_of_exec h
  cases hy.symm.trans hx
  rcases hcode with hcode | ⟨hcode, -⟩ <;> rw [hcode]
  · exact firstFailure_ne_errOp s i
  · simp

/-- A command with the announced payload answers the code of its first failing check. -/
theorem exec_status_of_wellFormed {i : Instr} {s t : State} (h : exec i s = .next t)
    (hi : i.wellFormed = true) : ∃ data, t.response = some ⟨firstFailure s i, data⟩ := by
  obtain ⟨⟨code, data⟩, hx, hcode | ⟨-, hbad⟩⟩ := answersFirstFailure_of_exec h
  · exact ⟨data, hcode ▸ hx⟩
  · cases hi.symm.trans hbad

/-- A command that answers a code other than OK has changed the response port only, with data 0
(60_exceptions R221). -/
theorem exec_rejection {i : Instr} {s t : State} {x : Response} (h : exec i s = .next t)
    (hx : t.response = some x) (hne : x.status ≠ .ok) : t = s.answer x.status 0#64 := by
  cases completes_of_exec h with
  | rejected code =>
    cases hx
    rfl
  | answered | constructed | destroyed | cleared | transformed =>
    cases hx
    exact absurd rfl hne

/-! ## The statements -/

/-- Settles O5: a word is reserved where the decoder says so, and a word that decodes runs a
command. -/
theorem reservedWordsDrawErrOp : Obligations.ReservedWordsDrawErrOp := by
  intro s r rest hin
  refine ⟨isReserved_iff_no_row, fun hres => ⟨payloadBeats_of_isReserved hres, ?_⟩,
    fun hres t x ht hx => ?_⟩
  · obtain ⟨why, hd⟩ := isReserved_iff_decode.mp hres
    rw [step_of_reserved hin hd, State.accept_of_inputs_eq_cons hin]
    rfl
  · cases hd : decode r with
    | reserved why => exact absurd (isReserved_iff_decode.mpr ⟨why, hd⟩) hres
    | command i => exact exec_status_ne_errOp ((step_of_command hin hd).symm.trans ht) hx

/-- Settles O48: the step takes the command off, and a rejected one only answers. -/
theorem rejectionChangesNothing : Obligations.RejectionChangesNothing := by
  intro s t r rest x hin ht hx hne
  suffices hanswer : t = s.accept.answer x.status 0#64 by
    rwa [State.accept_of_inputs_eq_cons hin] at hanswer
  cases hd : decode r with
  | reserved why =>
    cases (step_of_reserved hin hd).symm.trans ht
    cases hx
    rfl
  | command i => exact exec_rejection ((step_of_command hin hd).symm.trans ht) hx hne

/-- Settles O49: where the invariants hold the step goes on, and a framed request decodes to a
command with its announced payload. -/
theorem firstFailingCheckGivesCode : Obligations.FirstFailingCheckGivesCode := by
  intro s r rest h hf hin
  cases hd : decode r with
  | reserved why => exact ⟨_, _, step_of_reserved hin hd, rfl⟩
  | command i =>
    obtain ⟨t, ht⟩ := exec_goes_on h.accept i
    obtain ⟨hwf, -⟩ := encodeInvertsDecode r i hf hd
    obtain ⟨data, hx⟩ := exec_status_of_wellFormed ht hwf
    rw [firstFailure_accept] at hx
    exact ⟨t, data, (step_of_command hin hd).trans ht, hx⟩

end Sys2Proof.Machine
end

section
/-! PROOF. A reset request (70_reset_and_hazards R250 to R252). -/

namespace Sys2Proof.Machine

/-- Settles O57: a reset clears what DESTROY clears, and leaves no response. -/
theorem resetRequestEffect : Obligations.ResetRequestEffect := by
  intro s rest hin
  refine ⟨_, step_reset hin, rfl, rfl, rfl, rfl, rfl, by simp [hin], fun u hu => ?_⟩
  obtain ⟨v, he, hc, ⟨hlen, hlog, hdom⟩, -⟩ := execDestroy_clears s
  cases he.symm.trans hu
  exact ⟨hc, hlen, hlog, hdom⟩

end Sys2Proof.Machine
end
